-- ==== Sys2Proof/Word.lean ====
section
/-! DEFINITION. The word types of the CHIP-8 core and its plainest arithmetic
(00_scope.md R6, R8, R9): bytes, words, 12-bit addresses, 4-bit indexes, truncation. -/

namespace Sys2Proof

/-- A general register, a timer or one byte of memory: 8 bits, unsigned (R6 `XLEN`, R21, R34). -/
abbrev Byte := BitVec 8

/-- The program counter, a stack slot, the storage of I, an instruction word: 16 bits (R6). -/
abbrev Word := BitVec 16

/-- The operand field nnn: a 12-bit address (R62). -/
abbrev Addr := BitVec 12

/-- The index of a general register, V0..VF: the fields x and y (R21, R62). -/
abbrev Reg := Fin 16

/-- A key code, 0x0..0xF (R174). -/
abbrev Key := Fin 16

/-- `trunc8(v) = v mod 256` (R9). -/
abbrev trunc8 (v : Nat) : Byte := BitVec.ofNat 8 v

/-- `trunc16(v) = v mod 65536` (R9). -/
abbrev trunc16 (v : Nat) : Word := BitVec.ofNat 16 v

/-- `trunc12(v) = v mod 4096`, kept as a number below 0x1000 (R9). -/
abbrev trunc12 (v : Nat) : Nat := v % 4096

/-- `b2i(true) = 1`, `b2i(false) = 0` (R9), as the byte that is written to VF. -/
def b2i (b : Bool) : Byte := if b then 1#8 else 0#8

/-- The register that is also the flag register: VF = `V[15]` (R23). -/
abbrev VF : Reg := 15

end Sys2Proof
end

