-- ==== Sys2Proof/Syntax.lean ====
section
/-! DEFINITION. The 35 instructions of spec/opcode_table.json, one constructor per row in the
table's order, with the operand fields of 30_encoding.md R62 as their arguments. -/

namespace Sys2Proof

/-- One instruction. `x`, `y` are register indexes, `kk` an 8-bit immediate, `nnn` a 12-bit
address, `n` a count of sprite bytes (R62, R63). -/
inductive Instr
  /-- 0nnn SYS nnn (R80). -/
  | sys (nnn : Addr)
  /-- 00E0 CLS (R140). -/
  | cls
  /-- 00EE RET (R81). -/
  | ret
  /-- 1nnn JP nnn (R82). -/
  | jp (nnn : Addr)
  /-- 2nnn CALL nnn (R83). -/
  | call (nnn : Addr)
  /-- 3xkk SE Vx, kk (R90). -/
  | seImm (x : Reg) (kk : Byte)
  /-- 4xkk SNE Vx, kk (R91). -/
  | sneImm (x : Reg) (kk : Byte)
  /-- 5xy0 SE Vx, Vy (R92). -/
  | seReg (x y : Reg)
  /-- 6xkk LD Vx, kk (R102). -/
  | ldImm (x : Reg) (kk : Byte)
  /-- 7xkk ADD Vx, kk (R103). -/
  | addImm (x : Reg) (kk : Byte)
  /-- 8xy0 LD Vx, Vy (R104). -/
  | ldReg (x y : Reg)
  /-- 8xy1 OR Vx, Vy (R105). -/
  | orReg (x y : Reg)
  /-- 8xy2 AND Vx, Vy (R106). -/
  | andReg (x y : Reg)
  /-- 8xy3 XOR Vx, Vy (R107). -/
  | xorReg (x y : Reg)
  /-- 8xy4 ADD Vx, Vy (R108). -/
  | addReg (x y : Reg)
  /-- 8xy5 SUB Vx, Vy (R109). -/
  | subReg (x y : Reg)
  /-- 8xy6 SHR Vx, Vy (R111); y is decoded and kept, and read only when `SHIFT_SOURCE = vy` (R64). -/
  | shr (x y : Reg)
  /-- 8xy7 SUBN Vx, Vy (R110). -/
  | subnReg (x y : Reg)
  /-- 8xyE SHL Vx, Vy (R112); y as for SHR. -/
  | shl (x y : Reg)
  /-- 9xy0 SNE Vx, Vy (R93). -/
  | sneReg (x y : Reg)
  /-- Annn LD I, nnn (R120). -/
  | ldI (nnn : Addr)
  /-- Bnnn JP V0, nnn (R84). -/
  | jpV0 (nnn : Addr)
  /-- Cxkk RND Vx, kk (R113). -/
  | rnd (x : Reg) (kk : Byte)
  /-- Dxyn DRW Vx, Vy, n (R142). -/
  | drw (x y : Reg) (n : Fin 16)
  /-- Ex9E SKP Vx (R94). -/
  | skp (x : Reg)
  /-- ExA1 SKNP Vx (R95). -/
  | sknp (x : Reg)
  /-- Fx07 LD Vx, DT (R130). -/
  | ldVxDt (x : Reg)
  /-- Fx0A LD Vx, K (R133). -/
  | ldVxK (x : Reg)
  /-- Fx15 LD DT, Vx (R131). -/
  | ldDtVx (x : Reg)
  /-- Fx18 LD ST, Vx (R132). -/
  | ldStVx (x : Reg)
  /-- Fx1E ADD I, Vx (R121). -/
  | addI (x : Reg)
  /-- Fx29 LD F, Vx (R122). -/
  | ldF (x : Reg)
  /-- Fx33 LD B, Vx (R124). -/
  | ldB (x : Reg)
  /-- Fx55 LD [I], Vx (R125). -/
  | ldMemStore (x : Reg)
  /-- Fx65 LD Vx, [I] (R126). -/
  | ldMemLoad (x : Reg)
deriving DecidableEq, Repr

/-- The six formats of R64. -/
inductive Format
  /-- All 16 bits fixed. -/
  | none
  /-- oooo nnnn nnnn nnnn. -/
  | addr
  /-- oooo xxxx kkkk kkkk. -/
  | x_kk
  /-- oooo xxxx yyyy ssss, s fixed. -/
  | x_y_sub
  /-- 1101 xxxx yyyy nnnn. -/
  | x_y_n
  /-- oooo xxxx ssss ssss, s fixed. -/
  | x_sub
deriving DecidableEq, Repr

/-- Why the decoder gives no instruction. -/
inductive Reject
  /-- No row of R65 matches the word (R70). -/
  | unknownWord (w : Word)
  /-- Fewer than the two bytes of one instruction are given (R60). -/
  | tooShort
deriving DecidableEq, Repr

end Sys2Proof
end

