-- ==== Sys2Proof/WellFormed.lean ====
section
/-! DEFINITION. Which terms of `Instr` are instructions of the core. Register indexes, immediates
and counts are in range by their types, and "within a decoded instruction every operand value is
legal" (30_encoding.md R74), so one check is left: R68 takes 0x00E0 and 0x00EE out of SYS. -/

namespace Sys2Proof

/-- R68: "SYS is `w[15:12] = 0` and `w ∉ {0x00E0, 0x00EE}`", so `SYS 0x0E0` and `SYS 0x0EE` are no
instructions: their words are CLS and RET. -/
def Instr.wellFormed (i : Instr) : Bool :=
  match i with
  | .sys nnn => nnn != 0x0E0#12 && nnn != 0x0EE#12
  | .cls | .ret | .jp _ | .call _ | .seImm _ _ | .sneImm _ _ | .seReg _ _ | .ldImm _ _
  | .addImm _ _ | .ldReg _ _ | .orReg _ _ | .andReg _ _ | .xorReg _ _ | .addReg _ _ | .subReg _ _
  | .shr _ _ | .subnReg _ _ | .shl _ _ | .sneReg _ _ | .ldI _ | .jpV0 _ | .rnd _ _ | .drw _ _ _
  | .skp _ | .sknp _ | .ldVxDt _ | .ldVxK _ | .ldDtVx _ | .ldStVx _ | .addI _ | .ldF _ | .ldB _
  | .ldMemStore _ | .ldMemLoad _ => true

end Sys2Proof
end

