-- ==== Sys2Proof/Decode.lean ====
section
/-! DEFINITION. Fields, exact decode, encoder and alias test of 30_encoding.md (R60 to R76). -/

namespace Sys2Proof

/-! ## Operand fields (R62) -/

/-- `w[hi:lo]`: the unsigned value of bits hi down to lo of w (R8). -/
def slice (w : Word) (hi lo : Nat) : Nat := w.toNat / 2 ^ lo % 2 ^ (hi - lo + 1)

/-- The major opcode nibble N3 = w[15:12] (R61). -/
def fieldN3 (w : Word) : Nat := slice w 15 12

/-- `x = w[11:8]` (R62). -/
def fieldX (w : Word) : Reg := ⟨slice w 11 8, Nat.mod_lt _ (by decide)⟩

/-- `y = w[7:4]` (R62). -/
def fieldY (w : Word) : Reg := ⟨slice w 7 4, Nat.mod_lt _ (by decide)⟩

/-- `n = w[3:0]` (R62). -/
def fieldN (w : Word) : Fin 16 := ⟨slice w 3 0, Nat.mod_lt _ (by decide)⟩

/-- `kk = w[7:0]` (R62). -/
def fieldKk (w : Word) : Byte := BitVec.ofNat 8 (slice w 7 0)

/-- `nnn = w[11:0]` (R62). -/
def fieldNnn (w : Word) : Addr := BitVec.ofNat 12 (slice w 11 0)

/-! ## Exact decode (R68) -/

/-- Decode of the words with N3 = 8: a switch on N0 (R65 rows 11 to 19). -/
def decode8 (w : Word) : Except Reject Instr :=
  match (fieldN w).val with
  | 0x0 => .ok (.ldReg (fieldX w) (fieldY w))
  | 0x1 => .ok (.orReg (fieldX w) (fieldY w))
  | 0x2 => .ok (.andReg (fieldX w) (fieldY w))
  | 0x3 => .ok (.xorReg (fieldX w) (fieldY w))
  | 0x4 => .ok (.addReg (fieldX w) (fieldY w))
  | 0x5 => .ok (.subReg (fieldX w) (fieldY w))
  | 0x6 => .ok (.shr (fieldX w) (fieldY w))
  | 0x7 => .ok (.subnReg (fieldX w) (fieldY w))
  | 0xE => .ok (.shl (fieldX w) (fieldY w))
  | _ => .error (.unknownWord w)

/-- Decode of the words with N3 = F: a switch on kk (R65 rows 27 to 35). -/
def decodeF (w : Word) : Except Reject Instr :=
  match slice w 7 0 with
  | 0x07 => .ok (.ldVxDt (fieldX w))
  | 0x0A => .ok (.ldVxK (fieldX w))
  | 0x15 => .ok (.ldDtVx (fieldX w))
  | 0x18 => .ok (.ldStVx (fieldX w))
  | 0x1E => .ok (.addI (fieldX w))
  | 0x29 => .ok (.ldF (fieldX w))
  | 0x33 => .ok (.ldB (fieldX w))
  | 0x55 => .ok (.ldMemStore (fieldX w))
  | 0x65 => .ok (.ldMemLoad (fieldX w))
  | _ => .error (.unknownWord w)

/-- Exact decode of a word, as the two-level switch of R68: on N3; for N3 = 0 on the whole word;
for N3 = 5, 8, 9 on N0; for N3 = E, F on kk. Words that no row of R65 matches are Unknown (R70). -/
def decodeWord (w : Word) : Except Reject Instr :=
  match fieldN3 w with
  | 0x0 =>
    if w = 0x00E0#16 then .ok .cls
    else if w = 0x00EE#16 then .ok .ret
    else .ok (.sys (fieldNnn w))
  | 0x1 => .ok (.jp (fieldNnn w))
  | 0x2 => .ok (.call (fieldNnn w))
  | 0x3 => .ok (.seImm (fieldX w) (fieldKk w))
  | 0x4 => .ok (.sneImm (fieldX w) (fieldKk w))
  | 0x5 => if fieldN w = 0 then .ok (.seReg (fieldX w) (fieldY w)) else .error (.unknownWord w)
  | 0x6 => .ok (.ldImm (fieldX w) (fieldKk w))
  | 0x7 => .ok (.addImm (fieldX w) (fieldKk w))
  | 0x8 => decode8 w
  | 0x9 => if fieldN w = 0 then .ok (.sneReg (fieldX w) (fieldY w)) else .error (.unknownWord w)
  | 0xA => .ok (.ldI (fieldNnn w))
  | 0xB => .ok (.jpV0 (fieldNnn w))
  | 0xC => .ok (.rnd (fieldX w) (fieldKk w))
  | 0xD => .ok (.drw (fieldX w) (fieldY w) (fieldN w))
  | 0xE =>
    if slice w 7 0 = 0x9E then .ok (.skp (fieldX w))
    else if slice w 7 0 = 0xA1 then .ok (.sknp (fieldX w))
    else .error (.unknownWord w)
  | _ => decodeF w

/-- The word held by two bytes, the high byte first: "big-endian: high byte at the lower address"
(R49, R60). -/
def wordOfBytes (hi lo : Byte) : Word := BitVec.ofNat 16 (hi.toNat * 256 + lo.toNat)

/-- The two bytes of a word in address order (R49). -/
def bytesOfWord (w : Word) : List Byte :=
  [BitVec.ofNat 8 (slice w 15 8), BitVec.ofNat 8 (slice w 7 0)]

/-- Decode the instruction that stands at the head of any byte sequence, and give the bytes after
it: every instruction is two bytes long (R60). -/
def decodeBytes (bs : List Byte) : Except Reject (Instr × List Byte) :=
  match bs with
  | hi :: lo :: rest =>
    match decodeWord (wordOfBytes hi lo) with
    | .ok i => .ok (i, rest)
    | .error r => .error r
  | _ => .error .tooShort

/-- The instruction that the decoder reads from a table word: `w` holds the instruction's bits
with bit 0 the least significant bit of its one 16-bit word; bits above `nbits` are 0. -/
def decodeTableWord (nbits w : Nat) : Option Instr :=
  match decodeBytes (bytesOfWord (BitVec.ofNat 16 (w % 2 ^ nbits))) with
  | .ok (i, _) => some i
  | .error _ => none

/-! ## The opcode map of R65 -/

/-- The `match` and `mask` columns of the instruction's row in R65. -/
def Instr.row (i : Instr) : Word × Word :=
  match i with
  | .sys _ => (0x0000, 0xF000)
  | .cls => (0x00E0, 0xFFFF)
  | .ret => (0x00EE, 0xFFFF)
  | .jp _ => (0x1000, 0xF000)
  | .call _ => (0x2000, 0xF000)
  | .seImm _ _ => (0x3000, 0xF000)
  | .sneImm _ _ => (0x4000, 0xF000)
  | .seReg _ _ => (0x5000, 0xF00F)
  | .ldImm _ _ => (0x6000, 0xF000)
  | .addImm _ _ => (0x7000, 0xF000)
  | .ldReg _ _ => (0x8000, 0xF00F)
  | .orReg _ _ => (0x8001, 0xF00F)
  | .andReg _ _ => (0x8002, 0xF00F)
  | .xorReg _ _ => (0x8003, 0xF00F)
  | .addReg _ _ => (0x8004, 0xF00F)
  | .subReg _ _ => (0x8005, 0xF00F)
  | .shr _ _ => (0x8006, 0xF00F)
  | .subnReg _ _ => (0x8007, 0xF00F)
  | .shl _ _ => (0x800E, 0xF00F)
  | .sneReg _ _ => (0x9000, 0xF00F)
  | .ldI _ => (0xA000, 0xF000)
  | .jpV0 _ => (0xB000, 0xF000)
  | .rnd _ _ => (0xC000, 0xF000)
  | .drw _ _ _ => (0xD000, 0xF000)
  | .skp _ => (0xE09E, 0xF0FF)
  | .sknp _ => (0xE0A1, 0xF0FF)
  | .ldVxDt _ => (0xF007, 0xF0FF)
  | .ldVxK _ => (0xF00A, 0xF0FF)
  | .ldDtVx _ => (0xF015, 0xF0FF)
  | .ldStVx _ => (0xF018, 0xF0FF)
  | .addI _ => (0xF01E, 0xF0FF)
  | .ldF _ => (0xF029, 0xF0FF)
  | .ldB _ => (0xF033, 0xF0FF)
  | .ldMemStore _ => (0xF055, 0xF0FF)
  | .ldMemLoad _ => (0xF065, 0xF0FF)

/-- `M(j)` of R73 for the 34 rows of R65 other than SYS, in the table's order. -/
def rowMatches : List Word :=
  [0x00E0, 0x00EE, 0x1000, 0x2000, 0x3000, 0x4000, 0x5000, 0x6000, 0x7000] ++
  [0x8000, 0x8001, 0x8002, 0x8003, 0x8004, 0x8005, 0x8006, 0x8007, 0x800E] ++
  [0x9000, 0xA000, 0xB000, 0xC000, 0xD000, 0xE09E, 0xE0A1] ++
  [0xF007, 0xF00A, 0xF015, 0xF018, 0xF01E, 0xF029, 0xF033, 0xF055, 0xF065]

/-- `(w & m) = m`: the original's matcher would take the row with mask m (R72). -/
def contains (w m : Word) : Bool := (w &&& m) == m

/-- Whether R73 calls the word aliased. For an instruction other than SYS the row j = i needs no
exclusion of its own: `M(i) & ~M(i) = 0`. -/
def aliased (w : Word) : Bool :=
  match decodeWord w with
  | .ok (.sys _) => rowMatches.any (contains w)
  | .error _ => rowMatches.any (contains w)
  | .ok i => rowMatches.any fun m => contains w m && (m &&& ~~~i.row.1) != 0#16

/-! ## The encoder -/

/-- A word from its four nibbles N3 N2 N1 N0 (R61). -/
def packNibbles (n3 n2 n1 n0 : Nat) : Word :=
  BitVec.ofNat 16 (n3 * 4096 + n2 * 256 + n1 * 16 + n0)

/-- Format `addr`: oooo nnnn nnnn nnnn (R64). -/
def packAddr (n3 : Nat) (nnn : Addr) : Word := BitVec.ofNat 16 (n3 * 4096 + nnn.toNat)

/-- Format `x_kk`, and with a fixed low byte format `x_sub` (R64). -/
def packByte (n3 : Nat) (x : Reg) (kk : Byte) : Word :=
  BitVec.ofNat 16 (n3 * 4096 + x.val * 256 + kk.toNat)

/-- The word of a well-formed instruction, written from the pattern column of R65. -/
def encode (i : Instr) : Word :=
  match i with
  | .sys nnn => packAddr 0x0 nnn
  | .cls => 0x00E0#16
  | .ret => 0x00EE#16
  | .jp nnn => packAddr 0x1 nnn
  | .call nnn => packAddr 0x2 nnn
  | .seImm x kk => packByte 0x3 x kk
  | .sneImm x kk => packByte 0x4 x kk
  | .seReg x y => packNibbles 0x5 x.val y.val 0x0
  | .ldImm x kk => packByte 0x6 x kk
  | .addImm x kk => packByte 0x7 x kk
  | .ldReg x y => packNibbles 0x8 x.val y.val 0x0
  | .orReg x y => packNibbles 0x8 x.val y.val 0x1
  | .andReg x y => packNibbles 0x8 x.val y.val 0x2
  | .xorReg x y => packNibbles 0x8 x.val y.val 0x3
  | .addReg x y => packNibbles 0x8 x.val y.val 0x4
  | .subReg x y => packNibbles 0x8 x.val y.val 0x5
  | .shr x y => packNibbles 0x8 x.val y.val 0x6
  | .subnReg x y => packNibbles 0x8 x.val y.val 0x7
  | .shl x y => packNibbles 0x8 x.val y.val 0xE
  | .sneReg x y => packNibbles 0x9 x.val y.val 0x0
  | .ldI nnn => packAddr 0xA nnn
  | .jpV0 nnn => packAddr 0xB nnn
  | .rnd x kk => packByte 0xC x kk
  | .drw x y n => packNibbles 0xD x.val y.val n.val
  | .skp x => packByte 0xE x 0x9E#8
  | .sknp x => packByte 0xE x 0xA1#8
  | .ldVxDt x => packByte 0xF x 0x07#8
  | .ldVxK x => packByte 0xF x 0x0A#8
  | .ldDtVx x => packByte 0xF x 0x15#8
  | .ldStVx x => packByte 0xF x 0x18#8
  | .addI x => packByte 0xF x 0x1E#8
  | .ldF x => packByte 0xF x 0x29#8
  | .ldB x => packByte 0xF x 0x33#8
  | .ldMemStore x => packByte 0xF x 0x55#8
  | .ldMemLoad x => packByte 0xF x 0x65#8

/-! ## Formats, assembler text, handler names (R64, R75, R76) -/

/-- The instruction's format (R64). -/
def Instr.format (i : Instr) : Format :=
  match i with
  | .cls | .ret => .none
  | .sys _ | .jp _ | .call _ | .ldI _ | .jpV0 _ => .addr
  | .seImm _ _ | .sneImm _ _ | .ldImm _ _ | .addImm _ _ | .rnd _ _ => .x_kk
  | .seReg _ _ | .ldReg _ _ | .orReg _ _ | .andReg _ _ | .xorReg _ _ | .addReg _ _ | .subReg _ _
  | .shr _ _ | .subnReg _ _ | .shl _ _ | .sneReg _ _ => .x_y_sub
  | .drw _ _ _ => .x_y_n
  | .skp _ | .sknp _ | .ldVxDt _ | .ldVxK _ | .ldDtVx _ | .ldStVx _ | .addI _ | .ldF _ | .ldB _
  | .ldMemStore _ | .ldMemLoad _ => .x_sub

/-- A hexadecimal digit. -/
def hexDigit (d : Nat) : Char := ("0123456789ABCDEF".toList).getD d '?'

/-- `0x` and the given number of hexadecimal digits (R8). -/
def hexText (digits v : Nat) : String :=
  "0x" ++ String.ofList ((List.range digits).reverse.map fun k => hexDigit (v / 16 ^ k % 16))

/-- The name of a register, V0..VF (R75). -/
def regText (x : Reg) : String := "V" ++ String.ofList [hexDigit x.val]

/-- Operation and two register operands, destination first (R75). -/
def twoRegText (op : String) (x y : Reg) : String := op ++ " " ++ regText x ++ ", " ++ regText y

/-- The assembler text of an instruction (R75): operation, a space, operands separated by commas,
destination first. DESIGN CHOICE: the optional Vy of SHR and SHL is always written (log 15). -/
def Instr.assembly (i : Instr) : String :=
  match i with
  | .sys nnn => "SYS " ++ hexText 3 nnn.toNat
  | .cls => "CLS"
  | .ret => "RET"
  | .jp nnn => "JP " ++ hexText 3 nnn.toNat
  | .call nnn => "CALL " ++ hexText 3 nnn.toNat
  | .seImm x kk => "SE " ++ regText x ++ ", " ++ hexText 2 kk.toNat
  | .sneImm x kk => "SNE " ++ regText x ++ ", " ++ hexText 2 kk.toNat
  | .seReg x y => twoRegText "SE" x y
  | .ldImm x kk => "LD " ++ regText x ++ ", " ++ hexText 2 kk.toNat
  | .addImm x kk => "ADD " ++ regText x ++ ", " ++ hexText 2 kk.toNat
  | .ldReg x y => twoRegText "LD" x y
  | .orReg x y => twoRegText "OR" x y
  | .andReg x y => twoRegText "AND" x y
  | .xorReg x y => twoRegText "XOR" x y
  | .addReg x y => twoRegText "ADD" x y
  | .subReg x y => twoRegText "SUB" x y
  | .shr x y => twoRegText "SHR" x y
  | .subnReg x y => twoRegText "SUBN" x y
  | .shl x y => twoRegText "SHL" x y
  | .sneReg x y => twoRegText "SNE" x y
  | .ldI nnn => "LD I, " ++ hexText 3 nnn.toNat
  | .jpV0 nnn => "JP V0, " ++ hexText 3 nnn.toNat
  | .rnd x kk => "RND " ++ regText x ++ ", " ++ hexText 2 kk.toNat
  | .drw x y n => twoRegText "DRW" x y ++ ", " ++ hexText 1 n.val
  | .skp x => "SKP " ++ regText x
  | .sknp x => "SKNP " ++ regText x
  | .ldVxDt x => "LD " ++ regText x ++ ", DT"
  | .ldVxK x => "LD " ++ regText x ++ ", K"
  | .ldDtVx x => "LD DT, " ++ regText x
  | .ldStVx x => "LD ST, " ++ regText x
  | .addI x => "ADD I, " ++ regText x
  | .ldF x => "LD F, " ++ regText x
  | .ldB x => "LD B, " ++ regText x
  | .ldMemStore x => "LD [I], " ++ regText x
  | .ldMemLoad x => "LD " ++ regText x ++ ", [I]"

/-- SW8's handler name of an instruction, where R76 gives one. -/
def Instr.handler (i : Instr) : Option String :=
  match i with
  | .cls => some "CLS"
  | .ret => some "RET"
  | .jp _ | .jpV0 _ => some "JP"
  | .call _ => some "CALL"
  | .seImm _ _ | .seReg _ _ => some "SE"
  | .sneImm _ _ | .sneReg _ _ => some "SNE"
  | .addImm _ _ => some "ADD"
  | .addReg _ _ => some "ADD_V_V"
  | .subReg _ _ => some "SUB"
  | .subnReg _ _ => some "SUBN"
  | .shr _ _ => some "SHR"
  | .shl _ _ => some "SHL"
  | .rnd _ _ => some "RND"
  | .drw _ _ _ => some "DRW"
  | .skp _ => some "SKP"
  | .sknp _ => some "SKNP"
  | .ldVxK _ => some "LD_V_K"
  | .ldF _ => some "LD_F"
  | .ldB _ => some "LD_B"
  | .sys _ | .ldImm _ _ | .ldReg _ _ | .orReg _ _ | .andReg _ _ | .xorReg _ _ | .ldI _ | .ldVxDt _
  | .ldDtVx _ | .ldStVx _ | .addI _ | .ldMemStore _ | .ldMemLoad _ => none

end Sys2Proof
end

