-- ==== Sys2Proof/Config.lean ====
section
/-! DEFINITION. What is fixed for one instance of the core: the parameters of 00_scope.md R6 and
R7 with their decided defaults (92_eei_decisions.md), the vocabulary of what the outside world can
send to the core (60_exceptions.md R163, R177), and the free values: constants with no body, which
stand for what the spec leaves to the outside (R101 `either`, R170, R174, R175). -/

namespace Sys2Proof

/-! ## The fixed parameters of R6 -/

/-- `MEM_SIZE`: 4096 bytes, addresses 0x000..0xFFF (R6, R34, R45). -/
def memSize : Nat := 0x1000

/-- `STACK_FRAMES`: 16 return addresses (R6, R29; decision D4). DEDUCED: fixed (log 14). -/
abbrev stackFrames : Nat := 16

/-- `ROM_BASE`: program load address and reset value of pc (R6). -/
def romBase : Nat := 0x200

/-- `ROM_MAX = 0x1000 - 0x200 = 3584` bytes (R192). -/
def romMax : Nat := memSize - romBase

/-- `FONT_BASE`: address of the font table (R6, R52). -/
def fontBase : Nat := 0x000

/-- `DISP_W` (R6). -/
def dispW : Nat := 64

/-- `DISP_H` (R6). -/
def dispH : Nat := 32

/-! ## The parameters of R7 -/

/-- `DECODE_MODE` (R7, R68, R73; decision D1). -/
inductive DecodeMode
  /-- Exact decode, R68. -/
  | exact
  /-- Words on which the original's superset matcher may differ raise AliasedOpcode, R73. -/
  | aliasFault
deriving DecidableEq, Repr

/-- `UNKNOWN_OPCODE` (R7, R71; decision D2). -/
inductive UnknownOpcode
  /-- An Unknown word raises UnknownOpcode. -/
  | fault
  /-- An Unknown word does nothing but advance pc. -/
  | nop
deriving DecidableEq, Repr

/-- `VF_ORDER` (R7, R101; decision D10). -/
inductive VfOrder
  /-- The result is written first, VF ends holding the flag. -/
  | flagLast
  /-- The flag is written first, the destination ends holding the result. -/
  | resultLast
  /-- One of the two, chosen by a free draw at each execution. -/
  | either
deriving DecidableEq, Repr

/-- `SHIFT_SOURCE` (R7, R111, R112; decision D11). -/
inductive ShiftSource
  /-- Vx is shifted in place. -/
  | vx
  /-- Vy is shifted into Vx. -/
  | vy
deriving DecidableEq, Repr

/-- `SPEED`: a positive rational (R7, R165; decision D20). DEDUCED: by its type (log 12). -/
abbrev Speed := { q : Rat // 0 < q }

/-- The standard font of R52, one row of five bytes per glyph, digit 0 first. -/
def standardGlyphs : List (List Byte) :=
  [[0xF0, 0x90, 0x90, 0x90, 0xF0], [0x20, 0x60, 0x20, 0x20, 0x70],
   [0xF0, 0x10, 0xF0, 0x80, 0xF0], [0xF0, 0x10, 0xF0, 0x10, 0xF0],
   [0x90, 0x90, 0xF0, 0x10, 0x10], [0xF0, 0x80, 0xF0, 0x10, 0xF0],
   [0xF0, 0x80, 0xF0, 0x90, 0xF0], [0xF0, 0x10, 0x20, 0x40, 0x40]] ++
  [[0xF0, 0x90, 0xF0, 0x90, 0xF0], [0xF0, 0x90, 0xF0, 0x10, 0xF0],
   [0xF0, 0x90, 0xF0, 0x90, 0x90], [0xE0, 0x90, 0xE0, 0x90, 0xE0],
   [0xF0, 0x80, 0x80, 0x80, 0xF0], [0xE0, 0x90, 0x90, 0x90, 0xE0],
   [0xF0, 0x80, 0xF0, 0x80, 0xF0], [0xF0, 0x80, 0xF0, 0x80, 0x80]]

/-- The 80 bytes of the standard font, in address order (R52). -/
def standardFont : List Byte := standardGlyphs.flatten

/-- `FONT`: a table of 80 bytes (R7, R52; decision D16). -/
abbrev Font := Vector Byte 80

/-- The parameters that SW8 leaves open (R7). No step changes one of them but `speed`, which the
host may set (R165, R177). -/
structure Config where
  /-- `DECODE_MODE`, default exact (D1). -/
  decodeMode : DecodeMode := .exact
  /-- `UNKNOWN_OPCODE`, default fault (D2). -/
  unknownOpcode : UnknownOpcode := .fault
  /-- `FAULT_ON_ODD_PC`, default false (D9). -/
  faultOnOddPc : Bool := false
  /-- `VF_ORDER`, default flag_last (D10). -/
  vfOrder : VfOrder := .flagLast
  /-- `SHIFT_SOURCE`, default vx (D11). -/
  shiftSource : ShiftSource := .vx
  /-- `LOGIC_CLEARS_VF`, default false (D12). -/
  logicClearsVf : Bool := false
  /-- `ADD_IMM_SETS_VF`, default false (D13). -/
  addImmSetsVf : Bool := false
  /-- `MEM_INCREMENTS_I`, default false (D14). -/
  memIncrementsI : Bool := false
  /-- `FONT_DIGIT_MASK`, default false (D15). -/
  fontDigitMask : Bool := false
  /-- `FONT`, default the standard table of R52 (D16). -/
  font : Font := ⟨standardFont.toArray, by decide⟩
  /-- `SPEED`, default 1 (D20). -/
  speed : Speed := ⟨1, by decide⟩
deriving DecidableEq, Repr

/-- Every parameter at its default of R7. -/
def Config.default : Config := { decodeMode := .exact }

/-- `CPU_HZ = 1000 Hz x SPEED`, the nominal rate of CPU ticks (R164). No rule of a step depends on
it: a step takes any interleaving (R170). DESIGN CHOICE: no rate is enforced (log 13). -/
def Config.cpuHz (c : Config) : Rat := 1000 * c.speed.val

/-- `TIMER_HZ = 60 Hz x SPEED`, the nominal rate of timer ticks (R159, R164). -/
def Config.timerHz (c : Config) : Rat := 60 * c.speed.val

/-! ## What the outside can do between ticks -/

/-- The host commands of R177. -/
inductive HostCommand
  /-- `start` (R167). -/
  | start
  /-- `stop` (R168). -/
  | stop
  /-- `reset` (R190). -/
  | reset
  /-- `load(rom, autostart)` (R193). -/
  | load (rom : List Byte) (autostart : Bool)
  /-- reload(autostart) with the retained ROM (R194). -/
  | reload (autostart : Bool)
  /-- set `SPEED` (R165). -/
  | setSpeed (q : Speed)
  /-- read state (R177). -/
  | readState
deriving DecidableEq, Repr

/-- What happens next: one tick of one of the two periodic tasks, or one host command (the agents
of R163). Each is atomic (R54, R169, R177). -/
inductive Event
  /-- A CPU tick is due. -/
  | cpuTick
  /-- A timer tick is due. -/
  | timerTick
  /-- The host gives a command. -/
  | host (c : HostCommand)
deriving DecidableEq, Repr, Inhabited

/-! ## Free values

Each is an uninterpreted function of the number of draws made so far: nothing can be proved about
its values, so a statement about the machine holds whatever the outside does. -/

/-- FREE VALUE: which event comes n-th, once the state scripts no more of them. R170: "a model
takes, in Running, any interleaving of CPU ticks and timer ticks, with host commands between
ticks". -/
opaque Config.freeEvent : Nat → Event

/-- FREE VALUE: the n-th sample of the input port. R174: "A model takes each sample as a free draw
from {none, 0x0..0xF}". -/
opaque Config.freeKey : Nat → Option Key

/-- FREE VALUE: the n-th draw of the random port. R175: "a model takes it as a free draw under no
law". -/
opaque Config.freeRand : Nat → Byte

/-- FREE VALUE: the n-th choice of `VF_ORDER = either` (true: the flag is written last). R101: "one
of the two above, chosen by a free draw each execution". -/
opaque Config.freeFlagLast : Nat → Bool

end Sys2Proof
end

