-- ==== Sys2Proof/Machine/State.lean ====
section
/-! DEFINITION. The state of the core as plain data: the tuple of 10_state.md R20, and beside it
the units outside the block that the core drives or samples (R42, R172 to R177), the parameters
(R7) and the script of what the outside does next. The state after reset (R40, R41, R191). -/

namespace Sys2Proof.Machine

/-- Memory: the bytes that differ from their reset contents, by strictly rising address. What an
unlisted address reads as is `Memory.resetByte` (R40, R51, R52). DESIGN CHOICE: the form (log 10). -/
abbrev Memory := List Host.Cell

/-- The lifecycle state `run` (R20, R36, R166). -/
inductive RunState
  /-- No tick is taken; state is retained. -/
  | stopped
  /-- CPU ticks and timer ticks are taken. -/
  | running
  /-- Terminal: a fault has occurred (R155). -/
  | faulted
deriving DecidableEq, Repr

/-- `cpu_mode` (R20, R36, R38). -/
inductive CpuMode
  /-- A CPU tick fetches and executes one instruction (R66). -/
  | exec
  /-- A CPU tick polls the input port for `LD Vx, K` (R134). -/
  | waitKey (x : Reg)
deriving DecidableEq, Repr

/-- The fault causes of R151. -/
inductive FaultCause
  /-- Code 0: no fault has occurred. -/
  | none
  /-- Code 1: an accessed address exceeds 0xFFF; raised by fetch, DRW, Fx33, Fx55, Fx65. -/
  | memoryOutOfRange
  /-- Code 2: CALL with sp = 16. -/
  | stackOverflow
  /-- Code 3: RET with sp = 0. -/
  | stackUnderflow
  /-- Code 4: an Unknown word, with `UNKNOWN_OPCODE = fault`. -/
  | unknownOpcode
  /-- Code 5: an aliased word, with `DECODE_MODE = alias_fault`. -/
  | aliasedOpcode
  /-- Code 6: an odd pc, with `FAULT_ON_ODD_PC`. -/
  | misalignedPc
deriving DecidableEq, Repr

/-- The code column of R151. -/
def FaultCause.code : FaultCause → Nat
  | .none => 0
  | .memoryOutOfRange => 1
  | .stackOverflow => 2
  | .stackUnderflow => 3
  | .unknownOpcode => 4
  | .aliasedOpcode => 5
  | .misalignedPc => 6

/-- The fault record (R36, R39). -/
structure FaultRecord where
  /-- `fault.cause`. -/
  cause : FaultCause
  /-- `fault.addr`: address of the faulting instruction. -/
  addr : Word
  /-- `fault.word`: the faulting instruction word, 0 if not fetched. -/
  word : Word
  /-- `fault.data`: the out-of-range address for MemoryOutOfRange, else 0. -/
  data : Word
deriving DecidableEq, Repr

/-- The complete state of the block: the tuple of R20, in its order. -/
structure Block where
  /-- The general registers V0..VF (R21). -/
  V : Vector Byte 16
  /-- The address register I: 16-bit storage, value always 0..0xFFF (R25). -/
  I : Word
  /-- The program counter (R26). -/
  pc : Word
  /-- The stack pointer, 0..16; 0 is the empty stack (R29). -/
  sp : Fin 17
  /-- The 16 stack slots; slot `S[k]` of R29 stands at index k - 1. -/
  S : Vector Word 16
  /-- The delay timer (R32). -/
  DT : Byte
  /-- The sound timer (R33). -/
  ST : Byte
  /-- `Mem[0x000..0xFFF]` (R34). -/
  mem : Memory
  /-- The lifecycle state (R36). -/
  run : RunState
  /-- Whether the CPU waits for a key (R36). -/
  cpuMode : CpuMode
  /-- The audio port's last commanded state (R36). -/
  beep : Bool
  /-- The fault record (R39). -/
  fault : FaultRecord
  /-- The ROM retained for reload (R36). -/
  rom : Option (List Byte)
deriving DecidableEq, Repr

/-- The frame buffer of the external display: 32 rows of 64 pixels, `FB[Y][X]` is bit X of row Y
(R42, R145). -/
abbrev FrameBuffer := Vector (BitVec 64) 32

/-- A source of values from outside: those the state scripts come first, in order; after them the
n-th free value of the source is taken, n counting from 0. DESIGN CHOICE (log 3, 4, 5). -/
structure Feed (α : Type) where
  /-- Values that are given, the next one first. -/
  scripted : List α
  /-- How many free values have been taken. -/
  drawn : Nat
deriving DecidableEq, Repr

/-- What the core says to the outside: the port calls of R172, R173, R176, and the results that
R157 and R177 return to the host. -/
inductive PortCall
  /-- `Display.clear()` (R172). -/
  | displayClear
  /-- `Display.draw(bytes, x, y)` (R173). -/
  | displayDraw (bytes : List Byte) (x y : Byte)
  /-- `Audio.startBeep()` (R176). -/
  | startBeep
  /-- `Audio.stopBeep()` (R176). -/
  | stopBeep
  /-- The host error of a `load` of more than 3584 bytes (R157, R195). -/
  | romTooLarge
  /-- The host error of a reload with no ROM retained (R157, R194). -/
  | noRomLoaded
  /-- The result of a host read: `run`, `fault` and the architectural state (R177). -/
  | hostState (b : Block)
deriving DecidableEq, Repr

/-- The state of the model: the block, the external units the core drives or samples, the
parameters, and the script of the outside. -/
structure State extends Block where
  /-- The parameters of R7; R36 lists `SPEED` among the state the host writes. DESIGN CHOICE: they
  stand in State (log 7). -/
  cfg : Config
  /-- The frame buffer of the external display (R42, R145). DESIGN CHOICE: it stands in State
  (log 2). -/
  display : FrameBuffer
  /-- MODEL'S OWN, DESIGN CHOICE (log 3): which event comes next (R163, R170). -/
  schedule : Feed Event
  /-- MODEL'S OWN, DESIGN CHOICE (log 4): the samples of the input port (R174). -/
  keys : Feed (Option Key)
  /-- MODEL'S OWN, DESIGN CHOICE (log 5): the draws of the random port (R175). -/
  rands : Feed Byte
  /-- MODEL'S OWN, DESIGN CHOICE (log 5): the choices of `VF_ORDER = either`, true for flag last
  (R101). -/
  orders : Feed Bool
  /-- MODEL'S OWN, DESIGN CHOICE (log 6): the port calls and host results so far, oldest first. -/
  ports : List PortCall
deriving DecidableEq, Repr

/-- Why a step stops with a fault of the model. EMPTY: every fault of this core has a described
entry (R152) and is taken as a next state with `run = Faulted`, so no step ends here (safe).
DESIGN CHOICE (log 1). -/
inductive Fault
deriving DecidableEq, Repr

/-- Why a step is refused. -/
inductive Refusal
  /-- Raised by an arm of `exec` whose instruction has no meaning yet: by none, in this model
  (safe: it stops where the hardware goes on). -/
  | notModelled (mnemonic : String)
deriving DecidableEq, Repr

/-- What a meaning answers. -/
abbrev Result := Host.Outcome State Fault Refusal

/-- The state after power-on reset (R40, R41, R191): registers, stack and timers 0, memory at its
reset contents, pc = 0x200, Stopped, no fault, no ROM, no port called; the parameters at their
defaults (R7); the display clear; nothing scripted. DESIGN CHOICE: the fields that are the model's
own (log 2 to 7). -/
def State.reset : State where
  V := Vector.replicate 16 0#8
  I := 0#16
  pc := 0x200#16
  sp := 0
  S := Vector.replicate 16 0#16
  DT := 0#8
  ST := 0#8
  mem := []
  run := .stopped
  cpuMode := .exec
  beep := false
  fault := { cause := .none, addr := 0#16, word := 0#16, data := 0#16 }
  rom := Option.none
  cfg := Config.default
  display := Vector.replicate 32 0#64
  schedule := { scripted := [], drawn := 0 }
  keys := { scripted := [], drawn := 0 }
  rands := { scripted := [], drawn := 0 }
  orders := { scripted := [], drawn := 0 }
  ports := []

end Sys2Proof.Machine
end

