-- ==== Sys2Proof/Machine/Ops.lean ====
section
/-! DEFINITION. The named operations over the state that every rule uses (00_scope.md R10, R11):
registers, pc, stack, memory, ports, free draws, and raising a fault (60_exceptions.md R152). -/

namespace Sys2Proof.Machine

/-! ## Registers (R10, R21, R22, R25, R26) -/

/-- `V[i]` (R10). -/
def State.getV (s : State) (i : Reg) : Byte := s.V[i.val]

/-- `V[i] <- v` (R10, R22). -/
def State.setV (s : State) (i : Reg) (v : Byte) : State := { s with V := s.V.set i.val v }

/-- `I <- trunc12(n)`: the mask to 12 bits that R25 puts on every write of I. -/
def State.setI (s : State) (n : Nat) : State := { s with I := trunc16 (trunc12 n) }

/-- `pc <- trunc16(n)`: pc is never masked to 12 bits (R28). -/
def State.setPc (s : State) (n : Nat) : State := { s with pc := trunc16 n }

/-- `DT <- v` (R32). -/
def State.setDT (s : State) (v : Byte) : State := { s with DT := v }

/-- `ST <- v` (R33). -/
def State.setST (s : State) (v : Byte) : State := { s with ST := v }

/-- Replace the memory. -/
def State.setMem (s : State) (m : Memory) : State := { s with mem := m }

/-- Replace the stack pointer. -/
def State.setSp (s : State) (k : Fin 17) : State := { s with sp := k }

/-- Replace the stack slots. -/
def State.setS (s : State) (S : Vector Word 16) : State := { s with S := S }

/-- `run <- r` (R166). -/
def State.setRun (s : State) (r : RunState) : State := { s with run := r }

/-- `cpu_mode <- m` (R133, R134). -/
def State.setCpuMode (s : State) (m : CpuMode) : State := { s with cpuMode := m }

/-- `beep <- b` (R162). -/
def State.setBeep (s : State) (b : Bool) : State := { s with beep := b }

/-- `fault <- f` (R152). -/
def State.setFault (s : State) (f : FaultRecord) : State := { s with fault := f }

/-- Retain a ROM (R193). -/
def State.setRom (s : State) (r : Option (List Byte)) : State := { s with rom := r }

/-- Replace the parameters. -/
def State.setCfg (s : State) (c : Config) : State := { s with cfg := c }

/-- Replace the frame buffer of the external display. -/
def State.setDisplay (s : State) (fb : FrameBuffer) : State := { s with display := fb }

/-- Replace the schedule. -/
def State.setSchedule (s : State) (f : Feed Event) : State := { s with schedule := f }

/-- Replace the feed of the input port. -/
def State.setKeys (s : State) (f : Feed (Option Key)) : State := { s with keys := f }

/-- Replace the feed of the random port. -/
def State.setRands (s : State) (f : Feed Byte) : State := { s with rands := f }

/-- Replace the feed of the flag-order choices. -/
def State.setOrders (s : State) (f : Feed Bool) : State := { s with orders := f }

/-- A call of a port, or a result given to the host (R172 to R177). -/
def State.emit (s : State) (c : PortCall) : State := { s with ports := s.ports ++ [c] }

/-! ## Free draws and samples (R101, R170, R174, R175) -/

/-- The next value of a feed, and the feed after it. -/
def Feed.take {α : Type} (free : Nat → α) (f : Feed α) : α × Feed α :=
  match f.scripted with
  | a :: rest => (a, { f with scripted := rest })
  | [] => (free f.drawn, { f with drawn := f.drawn + 1 })

/-- The event that comes next: any tick, or any host command (R170). -/
def State.nextEvent (s : State) : Event × State :=
  let drawn := s.schedule.take Config.freeEvent
  (drawn.1, s.setSchedule drawn.2)

/-- `Key()`: one sample of the input port (R136, R174). -/
def State.sampleKey (s : State) : Option Key × State :=
  let drawn := s.keys.take Config.freeKey
  (drawn.1, s.setKeys drawn.2)

/-- `Rand()`: one draw from the random port (R175). -/
def State.drawRand (s : State) : Byte × State :=
  let drawn := s.rands.take Config.freeRand
  (drawn.1, s.setRands drawn.2)

/-- The free draw of `VF_ORDER = either`: true when the flag is written last (R101). -/
def State.drawFlagLast (s : State) : Bool × State :=
  let drawn := s.orders.take Config.freeFlagLast
  (drawn.1, s.setOrders drawn.2)

/-! ## Memory (R45 to R49, R51, R52) -/

/-- What an address reads as that no write has changed since reset: the font table at
0x000..0x04F, zero elsewhere (R40, R51, R52). DESIGN CHOICE: with another `FONT`, its bytes are
listed (log 10). -/
def Memory.resetByte (a : Nat) : Byte := standardFont.getD a 0#8

/-- The list holds only addresses `lo..0xFFF`, strictly rising, each with a byte other than its
reset byte. -/
def Memory.wfFrom (lo : Nat) : Memory → Bool
  | [] => true
  | (a, b) :: rest =>
    decide (lo ≤ a) && decide (a < memSize) && (b != Memory.resetByte a) && wfFrom (a + 1) rest

/-- The canonical form of memory: equal memories are equal lists. -/
def Memory.wf (m : Memory) : Bool := Memory.wfFrom 0 m

/-- The byte at an address: `MemRead(a, 1)` for `a ≤ 0xFFF` (R10). Every caller checks its range
before it reads (R48). -/
def Memory.read (m : Memory) (a : Nat) : Byte :=
  match m with
  | [] => Memory.resetByte a
  | (a', b) :: rest => if a' = a then b else Memory.read rest a

/-- Put a byte into the sorted list; its reset byte removes the entry. -/
def Memory.insert (m : Memory) (a : Nat) (v : Byte) : Memory :=
  match m with
  | [] => if v = Memory.resetByte a then [] else [(a, v)]
  | (a', b) :: rest =>
    if a' < a then (a', b) :: Memory.insert rest a v
    else if a' = a then
      if v = Memory.resetByte a then rest else (a, v) :: rest
    else
      if v = Memory.resetByte a then (a', b) :: rest else (a, v) :: (a', b) :: rest

/-- `MemWrite(a, 1, v)` (R10): addresses above 0xFFF are never written and do not wrap (R47). -/
def Memory.write (m : Memory) (a : Nat) (v : Byte) : Memory :=
  if a < memSize then m.insert a v else m

/-- Single-byte writes at `a, a + 1, …`, in order (R49, R53). -/
def Memory.writeBytes (m : Memory) (a : Nat) (bs : List Byte) : Memory :=
  match bs with
  | [] => m
  | b :: rest => (m.write a b).writeBytes (a + 1) rest

/-- Single-byte reads at `a, a + 1, …, a + n - 1`, in order (R49, R53). -/
def Memory.readBytes (m : Memory) (a n : Nat) : List Byte :=
  match n with
  | 0 => []
  | k + 1 => m.read a :: m.readBytes (a + 1) k

/-- The contents of memory after `reset` with the parameter `FONT`: zero, then the font (R190). -/
def Memory.afterReset (font : Font) : Memory := Memory.writeBytes [] fontBase font.toList

/-- The whole-range check of R48 for `n` bytes from I: an access of no byte is in range (R143). -/
def State.rangeOk (s : State) (n : Nat) : Bool := n == 0 || decide (s.I.toNat + (n - 1) ≤ 0xFFF)

/-! ## Control transfer (R29 to R31, R67) -/

/-- Add 2 to pc: the advance of R67, and the further 2 of a taken skip (R96). -/
def State.advancePc (s : State) : State := s.setPc (s.pc.toNat + 2)

/-- A skip instruction's effect on pc (R96). -/
def State.skipIf (s : State) (c : Bool) : State := if c then s.advancePc else s

/-- Push (R30): nothing when all 16 slots are used. -/
def State.push (s : State) (v : Word) : Option State :=
  if h : s.sp.val < stackFrames then
    some ((s.setSp ⟨s.sp.val + 1, Nat.succ_lt_succ h⟩).setS (s.S.set s.sp.val v h))
  else none

/-- Pop (R31): nothing when the stack is empty; the slot keeps its value. -/
def State.pop (s : State) : Option (Word × State) :=
  if h : 0 < s.sp.val then
    some (s.S[s.sp.val - 1]'(by omega), s.setSp ⟨s.sp.val - 1, by omega⟩)
  else none

/-! ## Audio (R162, R176) and fault entry (R152) -/

/-- `if beep then Audio.stopBeep(); beep <- false` (R152, R162, R190). -/
def State.silence (s : State) : State :=
  if s.beep then (s.emit .stopBeep).setBeep false else s

/-- `if not beep then Audio.startBeep(); beep <- true` (R162). -/
def State.sound (s : State) : State :=
  if s.beep then s else (s.emit .startBeep).setBeep true

/-- TAKING A FAULT (R152): the record is written, the core is Faulted, a key wait ends, a beep is
silenced; everything else keeps its value. -/
def State.raise (s : State) (cause : FaultCause) (addr word data : Word) : State :=
  (((s.setFault ⟨cause, addr, word, data⟩).setRun .faulted).setCpuMode .exec).silence

/-- The address A of the instruction being executed: pc already reads A + 2 (R26, R66). DEDUCED
(log 8). -/
def State.insnAddr (s : State) : Word := s.pc - 2#16

/-- A fault raised by the executing instruction `i`: addr = A, word = its word (R151). DEDUCED: the
word is the encoding of `i` (log 8). -/
def State.raiseIn (s : State) (cause : FaultCause) (i : Instr) (data : Word) : State :=
  s.raise cause s.insnAddr (encode i) data

/-- R48: a data access out of range records the first out-of-range address, 0x1000. DEDUCED: also
for an I above 0xFFF, which no run reaches (log 9). -/
def State.raiseRange (s : State) (i : Instr) : State := s.raiseIn .memoryOutOfRange i 0x1000#16

end Sys2Proof.Machine
end

