-- ==== Sys2Proof/Machine/Operands.lean ====
section
/-! DEFINITION. The operand forms of the instruction set (30_encoding.md R63, 43_index_memory.md
R122, R123, 42_alu.md R111): jump target, I plus an offset, glyph address, BCD digits, shift
source. -/

namespace Sys2Proof.Machine

/-- `zext_16(nnn)`: an address operand (R63). -/
def target (nnn : Addr) : Nat := nnn.toNat

/-- The effective address `I + k`, formed without truncation (R47, R123). -/
def State.effAddr (s : State) (k : Nat) : Nat := s.I.toNat + k

/-- The digit d of `LD F, Vx` (R122). -/
def State.fontDigit (s : State) (x : Reg) : Nat :=
  if s.cfg.fontDigitMask then (s.getV x).toNat % 16 else (s.getV x).toNat

/-- `FONT_BASE + 5 * d`: the address of a digit's glyph, before the mask to 12 bits (R122). -/
def glyphAddr (d : Nat) : Nat := fontBase + 5 * d

/-- Hundreds, tens and ones of a byte, as `LD B, Vx` stores them (R124). -/
def bcdDigits (v : Byte) : List Byte :=
  [trunc8 (v.toNat / 100), trunc8 (v.toNat / 10 % 10), trunc8 (v.toNat % 10)]

/-- The source register s of a shift (R111). -/
def State.shiftReg (s : State) (x y : Reg) : Reg :=
  match s.cfg.shiftSource with
  | .vx => x
  | .vy => y

/-- Whether a sample of the input port shows the key with code `Vx`; a code above 0xF never
matches (R94, R95). -/
def keyMatches (k : Option Key) (v : Byte) : Bool :=
  match k with
  | some c => decide (c.val = v.toNat)
  | none => false

/-- The byte that stands for a key code (R133). -/
def keyByte (c : Key) : Byte := trunc8 c.val

/-- The registers V0..VF by rising index. -/
def allRegs : List Reg := [0, 1, 2, 3, 4, 5, 6, 7, 8, 9, 10, 11, 12, 13, 14, 15]

/-- The registers V0..Vx by rising index: `for i = 0 to x` (R125, R126). -/
def regsUpTo (x : Reg) : List Reg := allRegs.take (x.val + 1)

/-- The values of V0..Vx, V0 first: what `LD [I], Vx` stores (R125). -/
def State.valuesUpTo (s : State) (x : Reg) : List Byte := (regsUpTo x).map s.getV

/-- `V[i] <- MemRead(I + i, 1)` for each listed register, in order (R126). -/
def State.loadRegs (s : State) (rs : List Reg) : State :=
  match rs with
  | [] => s
  | r :: rest => (s.setV r (s.mem.read (s.effAddr r.val))).loadRegs rest

/-- `if MEM_INCREMENTS_I then I <- trunc12(I + x + 1)` (R125, R126). -/
def State.bumpI (s : State) (x : Reg) : State :=
  if s.cfg.memIncrementsI then s.setI (s.I.toNat + x.val + 1) else s

end Sys2Proof.Machine
end

