-- ==== Sys2Proof/Machine/Flags.lean ====
section
/-! DEFINITION. Every computation of the flag register VF (10_state.md R23, 42_alu.md R100, R101,
R105 to R112, 45_display.md R142). -/

namespace Sys2Proof.Machine

/-- Carry of an exact sum: 1 when it exceeds 255 (R108). -/
def carry (sum : Nat) : Bool := decide (sum > 255)

/-- No borrow: 1 when minuend ≥ subtrahend (R109, R110). -/
def noBorrow (a b : Nat) : Bool := decide (a ≥ b)

/-- `VF <- flag` (R23). -/
def State.setFlag (s : State) (f : Byte) : State := s.setV VF f

/-- `WriteRF` with the result first: VF ends holding the flag (R101 `flag_last`). -/
def State.writeFlagLast (s : State) (x : Reg) (r : Byte) (f : Bool) : State :=
  (s.setV x r).setFlag (b2i f)

/-- `WriteRF` with the flag first: Vx ends holding the result (R101 `result_last`). -/
def State.writeResultLast (s : State) (x : Reg) (r : Byte) (f : Bool) : State :=
  (s.setFlag (b2i f)).setV x r

/-- `WriteRF(x, r, f)` (R101): the result-and-flag write of 8xy4, 8xy5, 8xy7, and of 7xkk when
`ADD_IMM_SETS_VF`. -/
def State.writeRF (s : State) (x : Reg) (r : Byte) (f : Bool) : State :=
  match s.cfg.vfOrder with
  | .flagLast => s.writeFlagLast x r f
  | .resultLast => s.writeResultLast x r f
  | .either =>
    if s.drawFlagLast.1 then s.drawFlagLast.2.writeFlagLast x r f
    else s.drawFlagLast.2.writeResultLast x r f

/-- The result of a logic operation: `V[x] <- r`, then `if LOGIC_CLEARS_VF then VF <- 0` (R105 to
R107). -/
def State.writeLogic (s : State) (x : Reg) (r : Byte) : State :=
  if s.cfg.logicClearsVf then (s.setV x r).setFlag 0#8 else s.setV x r

/-- The shifted-out least significant bit (R111). -/
def shiftedOutLsb (v : Byte) : Byte := v &&& 1#8

/-- The shifted-out most significant bit, 0 or 1 (R112). -/
def shiftedOutMsb (v : Byte) : Byte := v >>> 7

end Sys2Proof.Machine
end

