-- ==== Sys2Proof/Machine/Display.lean ====
section
/-! DEFINITION. The display contract and the two display instructions (45_display.md R140 to R147).
The frame buffer is the external display's; the core keeps no copy of it (R141). -/

namespace Sys2Proof.Machine

/-- `FB[Y][X]` (R145); coordinates are taken modulo 64 and 32. -/
def FrameBuffer.pixel (fb : FrameBuffer) (X Y : Nat) : Bool :=
  (fb[Y % 32]'(Nat.mod_lt _ (by decide))).getLsbD (X % 64)

/-- `FB[Y][X] <- FB[Y][X] ^ 1` (R145). -/
def FrameBuffer.toggle (fb : FrameBuffer) (X Y : Nat) : FrameBuffer :=
  fb.set (Y % 32) ((fb[Y % 32]'(Nat.mod_lt _ (by decide))) ^^^ (1#64 <<< (X % 64)))
    (Nat.mod_lt _ (by decide))

/-- `clear()`: every pixel off (R146). -/
def FrameBuffer.blank : FrameBuffer := Vector.replicate 32 0#64

/-- One sprite bit at (X, Y): a set bit toggles the pixel and reports a pixel that was set (R145). -/
def plotBit (X Y : Nat) (on : Bool) (acc : FrameBuffer × Bool) : FrameBuffer × Bool :=
  if on then (acc.1.toggle X Y, acc.2 || acc.1.pixel X Y) else acc

/-- The columns of a sprite byte, left to right. -/
def spriteColumns : List Nat := [0, 1, 2, 3, 4, 5, 6, 7]

/-- One sprite byte at row Y from column x: bit 7 is the leftmost pixel (R145). -/
def drawColumns (b : Byte) (x Y : Nat) (cs : List Nat) (acc : FrameBuffer × Bool) :
    FrameBuffer × Bool :=
  match cs with
  | [] => acc
  | c :: rest =>
    drawColumns b x Y rest (plotBit ((x + c) % dispW) (Y % dispH) (b.getLsbD (7 - c)) acc)

/-- The sprite bytes, the first at row y, each next one a row lower, with wraparound (R145). -/
def drawRows (bytes : List Byte) (x y : Nat) (acc : FrameBuffer × Bool) : FrameBuffer × Bool :=
  match bytes with
  | [] => acc
  | b :: rest => drawRows rest x (y + 1) (drawColumns b x y spriteColumns acc)

/-- `draw(bytes, x, y)`: the frame buffer after it, and the collision (R145). -/
def FrameBuffer.draw (fb : FrameBuffer) (bytes : List Byte) (x y : Byte) : FrameBuffer × Bool :=
  drawRows bytes x.toNat y.toNat (fb, false)

/-- `Display.clear()` on the display port (R172). -/
def State.clearDisplay (s : State) : State :=
  (s.setDisplay FrameBuffer.blank).emit .displayClear

/-- CLS (R140). -/
def execCls (s : State) : Result := .next s.clearDisplay

/-- DRW Vx, Vy, n: n bytes from I, drawn at (Vx, Vy) as read before VF is written; VF = collision
(R142, R143). -/
def execDrw (x y : Reg) (n : Fin 16) (s : State) : Result :=
  if s.rangeOk n.val then
    let bytes := s.mem.readBytes (s.effAddr 0) n.val
    let drawn := s.display.draw bytes (s.getV x) (s.getV y)
    .next (((s.setDisplay drawn.1).emit (.displayDraw bytes (s.getV x) (s.getV y))).setFlag
      (b2i drawn.2))
  else .next (s.raiseRange (.drw x y n))

end Sys2Proof.Machine
end

