-- ==== Sys2Proof/Machine/Lifecycle.lean ====
section
/-! DEFINITION. The lifecycle state machine and the host commands (60_exceptions.md R157, R165 to
R168, R177; 70_reset_and_hazards.md R190 to R195). -/

namespace Sys2Proof.Machine

/-- `start`: accepted in Stopped; nothing is cleared (R167). -/
def State.hostStart (s : State) : State :=
  match s.run with
  | .stopped => s.setRun .running
  | .running => s
  | .faulted => s

/-- `stop`: accepted in Running; a key wait ends without writing its register; no port is called
(R168, R135). -/
def State.hostStop (s : State) : State :=
  match s.run with
  | .running => (s.setRun .stopped).setCpuMode .exec
  | .stopped => s
  | .faulted => s

/-- The register part of `reset` (R190): Stopped, mode Exec, V, I, sp, S, DT, ST zero. -/
def State.clearRegisters (s : State) : State :=
  { s with
    run := .stopped, cpuMode := .exec, V := Vector.replicate 16 0#8, I := 0#16, sp := 0,
    S := Vector.replicate 16 0#16, DT := 0#8, ST := 0#8 }

/-- `reset()` as R190 performs it: registers and memory, the beep silenced, the display cleared,
pc = 0x200; `rom`, the fault record and the parameters stay. -/
def State.performReset (s : State) : State :=
  (((s.clearRegisters.setMem (Memory.afterReset s.cfg.font)).silence).clearDisplay).setPc romBase

/-- `reset`: accepted in Stopped and Running, ignored in Faulted (R190, R155). -/
def State.hostReset (s : State) : State :=
  match s.run with
  | .faulted => s
  | .stopped => s.performReset
  | .running => s.performReset

/-- The effect of `load(rom, autostart)` on a ROM that fits (R193): stop, reset, copy, retain,
start. -/
def State.performLoad (s : State) (rom : List Byte) (autostart : Bool) : State :=
  let s1 := s.hostStop.hostReset
  let s2 := (s1.setMem (s1.mem.writeBytes romBase rom)).setRom (some rom)
  if autostart then s2.hostStart else s2

/-- `load(rom, autostart)`: ignored in Faulted; RomTooLarge above 3584 bytes (R193, R195). -/
def State.hostLoad (s : State) (rom : List Byte) (autostart : Bool) : State :=
  if s.run = .faulted then s
  else if rom.length > romMax then s.emit .romTooLarge
  else s.performLoad rom autostart

/-- reload(autostart): ignored in Faulted; NoRomLoaded with no ROM retained (R194). -/
def State.hostReload (s : State) (autostart : Bool) : State :=
  if s.run = .faulted then s
  else
    match s.rom with
    | none => s.emit .noRomLoaded
    | some rom => s.hostLoad rom autostart

/-- set `SPEED`: accepted in any state but Faulted; it changes no state (R165, R177). -/
def State.hostSetSpeed (s : State) (q : Speed) : State :=
  if s.run = .faulted then s else s.setCfg { s.cfg with speed := q }

/-- read state: accepted in any state; the host gets `run`, `fault` and the architectural state
(R177). -/
def State.hostRead (s : State) : State := s.emit (.hostState s.toBlock)

/-- One host command, applied atomically between ticks (R177). -/
def hostCommand (c : HostCommand) (s : State) : State :=
  match c with
  | .start => s.hostStart
  | .stop => s.hostStop
  | .reset => s.hostReset
  | .load rom autostart => s.hostLoad rom autostart
  | .reload autostart => s.hostReload autostart
  | .setSpeed q => s.hostSetSpeed q
  | .readState => s.hostRead

end Sys2Proof.Machine
end

