-- ==== Sys2Proof/Machine/Alu.lean ====
section
/-! DEFINITION. Loads, register moves, logic, arithmetic, shifts and RND (42_alu.md R100 to R114).
Results are computed exactly on naturals and truncated to 8 bits when they are written (R100). -/

namespace Sys2Proof.Machine

/-- LD Vx, kk (R102). -/
def execLdImm (x : Reg) (kk : Byte) (s : State) : Result := .next (s.setV x kk)

/-- ADD Vx, kk: VF is written only when `ADD_IMM_SETS_VF` (R103). -/
def execAddImm (x : Reg) (kk : Byte) (s : State) : Result :=
  let sum := (s.getV x).toNat + kk.toNat
  if s.cfg.addImmSetsVf then .next (s.writeRF x (trunc8 sum) (carry sum))
  else .next (s.setV x (trunc8 sum))

/-- LD Vx, Vy (R104). -/
def execLdReg (x y : Reg) (s : State) : Result := .next (s.setV x (s.getV y))

/-- OR Vx, Vy (R105). -/
def execOrReg (x y : Reg) (s : State) : Result := .next (s.writeLogic x (s.getV x ||| s.getV y))

/-- AND Vx, Vy (R106). -/
def execAndReg (x y : Reg) (s : State) : Result := .next (s.writeLogic x (s.getV x &&& s.getV y))

/-- XOR Vx, Vy (R107). -/
def execXorReg (x y : Reg) (s : State) : Result := .next (s.writeLogic x (s.getV x ^^^ s.getV y))

/-- ADD Vx, Vy: VF = carry (R108). -/
def execAddReg (x y : Reg) (s : State) : Result :=
  let sum := (s.getV x).toNat + (s.getV y).toNat
  .next (s.writeRF x (trunc8 sum) (carry sum))

/-- SUB Vx, Vy: `trunc8(a - b + 256)`, VF = no borrow (R109). -/
def execSubReg (x y : Reg) (s : State) : Result :=
  let a := (s.getV x).toNat
  let b := (s.getV y).toNat
  .next (s.writeRF x (trunc8 (a + 256 - b)) (noBorrow a b))

/-- SUBN Vx, Vy: `trunc8(b - a + 256)`, VF = no borrow (R110). -/
def execSubnReg (x y : Reg) (s : State) : Result :=
  let a := (s.getV x).toNat
  let b := (s.getV y).toNat
  .next (s.writeRF x (trunc8 (b + 256 - a)) (noBorrow b a))

/-- SHR Vx: the flag is written first, then the source is read again and shifted (R111). -/
def execShr (x y : Reg) (s : State) : Result :=
  let src := s.shiftReg x y
  let s1 := s.setFlag (shiftedOutLsb (s.getV src))
  .next (s1.setV x (s1.getV src >>> 1))

/-- SHL Vx: the flag is written first, then the source is read again and shifted (R112). -/
def execShl (x y : Reg) (s : State) : Result :=
  let src := s.shiftReg x y
  let s1 := s.setFlag (shiftedOutMsb (s.getV src))
  .next (s1.setV x (trunc8 ((s1.getV src).toNat * 2)))

/-- RND Vx, kk: one draw of the random port, masked by kk (R113). -/
def execRnd (x : Reg) (kk : Byte) (s : State) : Result :=
  .next (s.drawRand.2.setV x (s.drawRand.1 &&& kk))

end Sys2Proof.Machine
end

