-- ==== Sys2Proof/Machine/ControlTransfer.lean ====
section
/-! DEFINITION. SYS, RET, JP, CALL, JP V0 (40_control_transfer.md R80 to R86). In every meaning pc
already holds A + 2. -/

namespace Sys2Proof.Machine

/-- SYS nnn: no operation (R80). -/
def execSys (_nnn : Addr) (s : State) : Result := .next s

/-- RET: `pc <- Pop()`; StackUnderflow when sp = 0 (R81). -/
def execRet (s : State) : Result :=
  match s.pop with
  | some (v, s1) => .next (s1.setPc v.toNat)
  | none => .next (s.raiseIn .stackUnderflow .ret 0#16)

/-- JP nnn: `pc <- zext_16(nnn)` (R82). -/
def execJp (nnn : Addr) (s : State) : Result := .next (s.setPc (target nnn))

/-- CALL nnn: `Push(pc)`, then `pc <- zext_16(nnn)`; StackOverflow when sp = 16 (R83). -/
def execCall (nnn : Addr) (s : State) : Result :=
  match s.push s.pc with
  | some s1 => .next (s1.setPc (target nnn))
  | none => .next (s.raiseIn .stackOverflow (.call nnn) 0#16)

/-- JP V0, nnn: `pc <- trunc16(zext_16(nnn) + V[0])` (R84). -/
def execJpV0 (nnn : Addr) (s : State) : Result :=
  .next (s.setPc (target nnn + (s.getV 0).toNat))

end Sys2Proof.Machine
end

