-- ==== Sys2Proof/Machine/IndexMemory.lean ====
section
/-! DEFINITION. The address register and the memory instructions (43_index_memory.md R120 to R127).
Each checks its whole range before any access (20_memory.md R48). -/

namespace Sys2Proof.Machine

/-- LD I, nnn (R120). -/
def execLdI (nnn : Addr) (s : State) : Result := .next (s.setI (target nnn))

/-- ADD I, Vx: `I <- trunc12(I + V[x])`, VF unchanged (R121). -/
def execAddI (x : Reg) (s : State) : Result := .next (s.setI (s.I.toNat + (s.getV x).toNat))

/-- LD F, Vx: I points at the glyph of a digit (R122). -/
def execLdF (x : Reg) (s : State) : Result := .next (s.setI (glyphAddr (s.fontDigit x)))

/-- LD B, Vx: the three decimal digits of Vx at I, I + 1, I + 2 (R124). -/
def execLdB (x : Reg) (s : State) : Result :=
  if s.rangeOk 3 then .next (s.setMem (s.mem.writeBytes (s.effAddr 0) (bcdDigits (s.getV x))))
  else .next (s.raiseRange (.ldB x))

/-- LD [I], Vx: V0..Vx at I .. I + x (R125). -/
def execLdMemStore (x : Reg) (s : State) : Result :=
  if s.rangeOk (x.val + 1) then
    .next ((s.setMem (s.mem.writeBytes (s.effAddr 0) (s.valuesUpTo x))).bumpI x)
  else .next (s.raiseRange (.ldMemStore x))

/-- LD Vx, [I]: V0..Vx from I .. I + x (R126). -/
def execLdMemLoad (x : Reg) (s : State) : Result :=
  if s.rangeOk (x.val + 1) then .next ((s.loadRegs (regsUpTo x)).bumpI x)
  else .next (s.raiseRange (.ldMemLoad x))

end Sys2Proof.Machine
end

