-- ==== Sys2Proof/Machine/Skips.lean ====
section
/-! DEFINITION. SE, SNE, SKP, SKNP (41_skips.md R90 to R96). A skip that is taken adds 2 to a pc
that already holds A + 2. -/

namespace Sys2Proof.Machine

/-- SE Vx, kk (R90). -/
def execSeImm (x : Reg) (kk : Byte) (s : State) : Result := .next (s.skipIf (s.getV x == kk))

/-- SNE Vx, kk (R91). -/
def execSneImm (x : Reg) (kk : Byte) (s : State) : Result := .next (s.skipIf (s.getV x != kk))

/-- SE Vx, Vy (R92). -/
def execSeReg (x y : Reg) (s : State) : Result := .next (s.skipIf (s.getV x == s.getV y))

/-- SNE Vx, Vy (R93). -/
def execSneReg (x y : Reg) (s : State) : Result := .next (s.skipIf (s.getV x != s.getV y))

/-- SKP Vx: one sample of the input port; skip when it shows the key with code Vx (R94). -/
def execSkp (x : Reg) (s : State) : Result :=
  .next (s.sampleKey.2.skipIf (keyMatches s.sampleKey.1 (s.getV x)))

/-- SKNP Vx: one sample of the input port; skip when it does not show the key with code Vx (R95). -/
def execSknp (x : Reg) (s : State) : Result :=
  .next (s.sampleKey.2.skipIf (!keyMatches s.sampleKey.1 (s.getV x)))

end Sys2Proof.Machine
end

