-- ==== Sys2Proof/Machine/TimersInput.lean ====
section
/-! DEFINITION. Timer access and the key wait (44_timers_input.md R130 to R136). -/

namespace Sys2Proof.Machine

/-- LD Vx, DT (R130). -/
def execLdVxDt (x : Reg) (s : State) : Result := .next (s.setV x s.DT)

/-- LD DT, Vx (R131). -/
def execLdDtVx (x : Reg) (s : State) : Result := .next (s.setDT (s.getV x))

/-- LD ST, Vx: no port is called (R132). -/
def execLdStVx (x : Reg) (s : State) : Result := .next (s.setST (s.getV x))

/-- One sample: a key that is held is stored in Vx at once; with none the CPU waits (R133). -/
def State.takeKeyOrWait (s : State) (x : Reg) : State :=
  match s.sampleKey.1 with
  | some c => s.sampleKey.2.setV x (keyByte c)
  | none => s.sampleKey.2.setCpuMode (.waitKey x)

/-- LD Vx, K (R133). -/
def execLdVxK (x : Reg) (s : State) : Result := .next (s.takeKeyOrWait x)

/-- The poll of a CPU tick in mode WaitKey(x) (R134). -/
def pollKey (x : Reg) (s : State) : State :=
  match s.sampleKey.1 with
  | some c => (s.sampleKey.2.setV x (keyByte c)).setCpuMode .exec
  | none => s.sampleKey.2

end Sys2Proof.Machine
end

