-- ==== Sys2Proof/Machine/Tick.lean ====
section
/-! DEFINITION. The CPU tick: fetch, advance, decode, execute (30_encoding.md R66 to R73), or one
poll while the CPU waits for a key (44_timers_input.md R134). -/

namespace Sys2Proof.Machine

/-- The first out-of-range address of a fetch at A: `trunc16(max(A, 0x1000))` (R66). -/
def fetchFaultData (A : Word) : Word := trunc16 (max A.toNat 0x1000)

/-- Whether `FAULT_ON_ODD_PC` forbids a fetch at this pc (R27, R66). -/
def State.oddPcFaults (s : State) : Bool := s.cfg.faultOnOddPc && decide (s.pc.toNat % 2 = 1)

/-- Whether both bytes of a fetch at this pc exist: `A + 1 ≤ 0xFFF` (R48, R66). -/
def State.fetchInRange (s : State) : Bool := decide (s.pc.toNat + 1 ≤ 0xFFF)

/-- The word a fetch at pc reads: `MemRead(A, 1) * 256 + MemRead(A + 1, 1)` (R49, R66). -/
def State.fetchWord (s : State) : Word :=
  wordOfBytes (s.mem.read s.pc.toNat) (s.mem.read (s.pc.toNat + 1))

/-- What a word that decodes to no instruction does, pc being advanced already (R71). -/
def unknownWord (A w : Word) (s : State) : State :=
  match s.cfg.unknownOpcode with
  | .fault => s.raise .unknownOpcode A w 0#16
  | .nop => s

/-- Decode and execute the word w fetched from A, pc being advanced already; in mode
`alias_fault` an aliased word faults first (R66, R68, R71, R73, priority R154). -/
def decodeExecute (A w : Word) (s : State) : Result :=
  if s.cfg.decodeMode = .aliasFault ∧ aliased w = true then
    .next (s.raise .aliasedOpcode A w 0#16)
  else
    match decodeWord w with
    | .ok i => exec i s
    | .error _ => .next (unknownWord A w s)

/-- A CPU tick in mode Exec (R66). -/
def fetchExecute (s : State) : Result :=
  if s.oddPcFaults then .next (s.raise .misalignedPc s.pc 0#16 0#16)
  else if s.fetchInRange then decodeExecute s.pc s.fetchWord s.advancePc
  else .next (s.raise .memoryOutOfRange s.pc 0#16 (fetchFaultData s.pc))

/-- A CPU tick: taken only in Running (R166, R169), elsewhere the event passes with no effect
(log 1); it executes in mode Exec (R66) and polls in mode WaitKey (R134). -/
def cpuTick (s : State) : Result :=
  match s.run with
  | .stopped => .next s
  | .faulted => .next s
  | .running =>
    match s.cpuMode with
    | .exec => fetchExecute s
    | .waitKey x => .next (pollKey x s)

end Sys2Proof.Machine
end

