-- ==== Sys2Proof/Machine/Timer.lean ====
section
/-! DEFINITION. The 60 Hz timer engine (60_exceptions.md R159 to R162). -/

namespace Sys2Proof.Machine

/-- `AudioUpdate()`: the port is called only on a change, driven by ST alone (R162). -/
def State.audioUpdate (s : State) : State := if s.ST = 0#8 then s.silence else s.sound

/-- `if t > 0 then t <- t - 1` (R161). -/
def countDown (t : Byte) : Byte := if t = 0#8 then 0#8 else t - 1#8

/-- `TimerTick()`: the audio update on the values before the decrement, then both decrements
(R161). -/
def State.runTimers (s : State) : State :=
  let s1 := s.audioUpdate
  (s1.setDT (countDown s1.DT)).setST (countDown s1.ST)

/-- A timer tick: taken only in Running, whatever `cpu_mode` is (R159, R166). -/
def timerTick (s : State) : State :=
  match s.run with
  | .stopped => s
  | .faulted => s
  | .running => s.runTimers

end Sys2Proof.Machine
end

