-- ==== Sys2Proof/Machine/Step.lean ====
section
/-! DEFINITION. One step of the machine: the next event, taken atomically (20_memory.md R54,
60_exceptions.md R163, R169, R170, R177). -/

namespace Sys2Proof.Machine

/-- One step: the next event is a CPU tick, a timer tick or a host command, and runs to its end. -/
def step (s : State) : Host.Outcome State Fault Refusal :=
  match s.nextEvent.1 with
  | .cpuTick => cpuTick s.nextEvent.2
  | .timerTick => .next (timerTick s.nextEvent.2)
  | .host c => .next (hostCommand c s.nextEvent.2)

/-- pc, or 0x200 when no fetch is possible at pc. -/
def State.fetchablePc (s : State) : Word :=
  if s.fetchInRange && !s.oddPcFaults then s.pc else trunc16 romBase

/-- DESIGN CHOICE (log 11). The state in which the very next step fetches and runs the instruction with bits `w`: its two
bytes stand at pc (0x200 when no fetch is possible at pc), the core is Running in mode Exec, and
the next event is a CPU tick. -/
def State.withFetchWord (s : State) (nbits w : Nat) : State :=
  let pc := s.fetchablePc
  { s with
    pc := pc
    mem := s.mem.writeBytes pc.toNat (bytesOfWord (BitVec.ofNat 16 (w % 2 ^ nbits)))
    run := .running
    cpuMode := .exec
    schedule := { s.schedule with scripted := .cpuTick :: s.schedule.scripted } }

end Sys2Proof.Machine
end

