-- ==== Sys2Proof/Safety.lean ====
section
/-! DEFINITION. The vocabulary of claims about runs: what an instruction keeps, and the invariants
of the core. -/

namespace Sys2Proof.Machine

/-! ## Frames -/

/-- Every general register outside the list is unchanged. -/
def KeepsRegsExcept (rs : List Reg) (s t : State) : Prop := ∀ r : Reg, r ∉ rs → t.getV r = s.getV r

/-- Every byte of memory outside `[a, a + n)` reads as before. -/
def KeepsMemOutside (a n : Nat) (s t : State) : Prop :=
  ∀ b : Nat, (b < a ∨ a + n ≤ b) → t.mem.read b = s.mem.read b

/-- Every byte of memory reads as before. -/
def KeepsMem (s t : State) : Prop := ∀ b : Nat, t.mem.read b = s.mem.read b

/-- The stack pointer and all stack slots are unchanged. -/
def KeepsStack (s t : State) : Prop := t.sp = s.sp ∧ t.S = s.S

/-- Both timers are unchanged. -/
def KeepsTimers (s t : State) : Prop := t.DT = s.DT ∧ t.ST = s.ST

/-- The control and status state of R36 and the parameters are unchanged. -/
def KeepsControl (s t : State) : Prop :=
  t.run = s.run ∧ t.cpuMode = s.cpuMode ∧ t.beep = s.beep ∧ t.fault = s.fault ∧ t.rom = s.rom ∧
    t.cfg = s.cfg

/-- The display is unchanged and no port is called. -/
def KeepsPorts (s t : State) : Prop := t.display = s.display ∧ t.ports = s.ports

/-- No value is taken from the schedule, the input port or the random port. -/
def KeepsInputs (s t : State) : Prop :=
  t.schedule = s.schedule ∧ t.keys = s.keys ∧ t.rands = s.rands

/-- Everything but the general registers, I, pc, memory, the display, the ports and the inputs. -/
def KeepsRest (s t : State) : Prop :=
  KeepsStack s t ∧ KeepsTimers s t ∧ KeepsControl s t ∧ t.orders = s.orders

/-- Everything but the general registers, I, pc, the display, the ports and the inputs. -/
def KeepsCore (s t : State) : Prop := KeepsMem s t ∧ KeepsRest s t

/-- What an instruction keeps that writes only the listed general registers. -/
def WritesOnlyRegs (rs : List Reg) (s t : State) : Prop :=
  KeepsRegsExcept rs s t ∧ t.I = s.I ∧ t.pc = s.pc ∧ KeepsCore s t ∧ KeepsPorts s t ∧
    KeepsInputs s t

/-- The same for an instruction that may also take a flag-order choice: the choices are taken from
their own feed, and only with `VF_ORDER = either`. -/
def WritesOnlyRegsAndChoice (rs : List Reg) (s t : State) : Prop :=
  KeepsRegsExcept rs s t ∧ t.I = s.I ∧ t.pc = s.pc ∧ KeepsMem s t ∧ KeepsStack s t ∧
    KeepsTimers s t ∧ KeepsControl s t ∧ KeepsPorts s t ∧ KeepsInputs s t ∧
    (s.cfg.vfOrder ≠ .either → t.orders = s.orders)

/-- What a jump or a skip keeps: everything but pc. -/
def WritesOnlyPc (s t : State) : Prop :=
  KeepsRegsExcept [] s t ∧ t.I = s.I ∧ KeepsCore s t ∧ KeepsPorts s t ∧ KeepsInputs s t

/-- What an instruction keeps that writes only I. -/
def WritesOnlyI (s t : State) : Prop :=
  KeepsRegsExcept [] s t ∧ t.pc = s.pc ∧ KeepsCore s t ∧ KeepsPorts s t ∧ KeepsInputs s t

/-- One sample of the input port is taken, and nothing from the schedule or the random port. -/
def TakesOneKey (s t : State) : Prop :=
  t.schedule = s.schedule ∧ t.keys = s.sampleKey.2.keys ∧ t.rands = s.rands

/-- The word `w` is the instruction's encoding: it decodes to `i` (R65, R68). -/
def Encodes (i : Instr) (w : Nat) : Prop := decodeWord (BitVec.ofNat 16 w) = .ok i

/-! ## Results -/

/-- `WriteRF(x, r, f)` as R101 gives it, with the frame of the instructions that use it. For x = 15
the two writes meet in VF and the order decides. -/
def WritesResultAndFlag (x : Reg) (r : Byte) (f : Bool) (s t : State) : Prop :=
  (x ≠ VF → t.getV x = r ∧ t.getV VF = b2i f) ∧
  (x = VF →
    (s.cfg.vfOrder = .flagLast → t.getV VF = b2i f) ∧
    (s.cfg.vfOrder = .resultLast → t.getV VF = r) ∧
    (s.cfg.vfOrder = .either → t.getV VF = b2i f ∨ t.getV VF = r)) ∧
  WritesOnlyRegsAndChoice [x, VF] s t

/-- The result of a logic operation with its frame (R105 to R107). -/
def WritesLogicResult (x : Reg) (r : Byte) (s t : State) : Prop :=
  (s.cfg.logicClearsVf = false → t.getV x = r ∧ WritesOnlyRegs [x] s t) ∧
  (s.cfg.logicClearsVf = true →
    (x ≠ VF → t.getV x = r) ∧ t.getV VF = 0#8 ∧ WritesOnlyRegs [x, VF] s t)

/-- I after Fx55 and Fx65 (R125, R126). -/
def IAfterTransfer (x : Reg) (s t : State) : Prop :=
  (s.cfg.memIncrementsI = false → t.I = s.I) ∧
  (s.cfg.memIncrementsI = true → t.I.toNat = (s.I.toNat + x.val + 1) % 4096)

/-- The general registers that an instruction names as its destination (R24); `LD Vx, [I]` names
V0..Vx. -/
def destRegs (i : Instr) : List Reg :=
  match i with
  | .ldImm x _ | .addImm x _ | .ldReg x _ | .orReg x _ | .andReg x _ | .xorReg x _ | .addReg x _
  | .subReg x _ | .shr x _ | .subnReg x _ | .shl x _ | .rnd x _ | .ldVxDt x | .ldVxK x => [x]
  | .ldMemLoad x => regsUpTo x
  | .sys _ | .cls | .ret | .jp _ | .call _ | .seImm _ _ | .sneImm _ _ | .seReg _ _ | .sneReg _ _
  | .ldI _ | .jpV0 _ | .drw _ _ _ | .skp _ | .sknp _ | .ldDtVx _ | .ldStVx _ | .addI _ | .ldF _
  | .ldB _ | .ldMemStore _ => []

/-- Whether an instruction writes VF as a side effect (R23). -/
def writesFlag (c : Config) (i : Instr) : Bool :=
  match i with
  | .addReg _ _ | .subReg _ _ | .subnReg _ _ | .shr _ _ | .shl _ _ | .drw _ _ _ => true
  | .orReg _ _ | .andReg _ _ | .xorReg _ _ => c.logicClearsVf
  | .addImm _ _ => c.addImmSetsVf
  | .sys _ | .cls | .ret | .jp _ | .call _ | .seImm _ _ | .sneImm _ _ | .seReg _ _ | .ldImm _ _
  | .ldReg _ _ | .sneReg _ _ | .ldI _ | .jpV0 _ | .rnd _ _ | .skp _ | .sknp _ | .ldVxDt _
  | .ldVxK _ | .ldDtVx _ | .ldStVx _ | .addI _ | .ldF _ | .ldB _ | .ldMemStore _
  | .ldMemLoad _ => false

/-- Whether the sprite `bytes` drawn at (x, y) has a set bit at pixel (X, Y) (R145). -/
def SpriteBit (bytes : List Byte) (x y X Y : Nat) : Prop :=
  ∃ r c : Nat, r < bytes.length ∧ c < 8 ∧ ((bytes.getD r 0#8) >>> (7 - c)) &&& 1#8 = 1#8 ∧
    X = (x + c) % 64 ∧ Y = (y + r) % 32

/-- A CPU tick is next, the core is Running in mode Exec, and the fetch at pc does not fault: the
word is fetched (R66). -/
def Fetches (s : State) : Prop :=
  s.nextEvent.1 = .cpuTick ∧ s.run = .running ∧ s.cpuMode = .exec ∧
    ¬(s.cfg.faultOnOddPc = true ∧ s.pc.toNat % 2 = 1) ∧ s.pc.toNat + 1 ≤ 0xFFF

/-- The word that stands at pc, high byte first (R49). -/
def wordAtPc (s : State) : Word :=
  BitVec.ofNat 16 ((s.mem.read s.pc.toNat).toNat * 256 + (s.mem.read (s.pc.toNat + 1)).toNat)

/-- Whether `DECODE_MODE` refuses the word (R73). -/
def AliasRefused (s : State) (w : Word) : Prop :=
  s.cfg.decodeMode = .aliasFault ∧ aliased w = true

/-! ## Runs -/

/-- A run of the machine: each state is the next one of the state before it. -/
def IsRun (r : Nat → State) : Prop := ∀ n, step (r n) = .next (r (n + 1))

/-- The weak fairness of R170, "each is taken infinitely often while Running lasts": the premise of
a claim that something happens at last. The model does not build it in (log 13). -/
def WeaklyFair (r : Nat → State) : Prop :=
  (∃ n, ∀ m, n ≤ m → (r m).run = .running) →
    ∀ n, (∃ m, n ≤ m ∧ (r m).nextEvent.1 = .cpuTick) ∧ ∃ m, n ≤ m ∧ (r m).nextEvent.1 = .timerTick

/-! ## Fault entry -/

/-- `t` is the Faulted state that a fault with this record makes of `s` (R152, R153): the record is
written, a key wait ends, a beep is silenced, and every other piece of state keeps its value, pc
included. -/
def FaultedFrom (s t : State) (f : FaultRecord) : Prop :=
  t.run = .faulted ∧ t.fault = f ∧ t.cpuMode = .exec ∧ t.beep = false ∧ t.pc = s.pc ∧
    t.V = s.V ∧ t.I = s.I ∧ KeepsStack s t ∧ KeepsTimers s t ∧ t.mem = s.mem ∧ t.rom = s.rom ∧
    t.cfg = s.cfg ∧ t.display = s.display ∧ KeepsInputs s t ∧ t.orders = s.orders ∧
    t.ports = s.ports ++ (if s.beep then [PortCall.stopBeep] else [])

/-! ## Invariants -/

/-- The retained ROM fits into memory (R192, R195). -/
def RomFits (s : State) : Prop := ∀ r, s.rom = some r → r.length ≤ romMax

/-- The invariant of the core, kept by every step from every state that has it:
memory is canonical; `0 <= I <= 0xFFF` (R25); a key wait lasts only while Running (R152, R168,
R190); the core is Faulted exactly when the record holds a cause, and the record is all zero
otherwise (R39, R41); a Faulted core is silent (R152); the retained ROM fits (R195). -/
def Inv (s : State) : Prop :=
  s.mem.wf = true ∧ s.I.toNat ≤ 0xFFF ∧ (s.cpuMode ≠ .exec → s.run = .running) ∧
    (s.run = .faulted ↔ s.fault.cause ≠ .none) ∧
    (s.fault.cause = .none → s.fault = ⟨.none, 0#16, 0#16, 0#16⟩) ∧
    (s.run = .faulted → s.beep = false) ∧ RomFits s

/-- The bounds of R28: the largest pc is 0x10FE, and no stack slot holds more than the address
after a CALL at 0xFFE. -/
def PcBounded (s : State) : Prop :=
  s.pc.toNat ≤ 0x10FE ∧ ∀ k : Fin 16, (s.S[k.val]).toNat ≤ 0x1000

end Sys2Proof.Machine
end

