-- ==== Sys2Proof/Certificates/Slice0/Obligations.lean ====
section
/-! DEFINITION. The statements for the provers, from the numbered rules of spec/. In every statement
about `exec`, the state given to it is the one after the pc advance (30_encoding.md R67), so
`s.pc = A + 2` for the instruction at address A. -/

open Sys2Proof Sys2Proof.Machine

/-! ## Reset -/

/-- R191, R52: the state at power-on, the font table digit by digit. -/
def Obligations.PowerOnState : Prop :=
  (∀ r : Reg, State.reset.getV r = 0#8) ∧ State.reset.I = 0#16 ∧ State.reset.sp = 0 ∧
  (∀ k : Fin 16, State.reset.S[k.val] = 0#16) ∧ State.reset.DT = 0#8 ∧ State.reset.ST = 0#8 ∧
  (∀ a : Nat, 80 ≤ a → State.reset.mem.read a = 0#8) ∧
  State.reset.pc = 0x200#16 ∧ State.reset.run = .stopped ∧ State.reset.cpuMode = .exec ∧
  State.reset.beep = false ∧ State.reset.fault = ⟨.none, 0#16, 0#16, 0#16⟩ ∧
  State.reset.rom = none ∧ State.reset.ports = [] ∧
  [(0x000, [0xF0#8, 0x90#8, 0x90#8, 0x90#8, 0xF0#8]), (0x005, [0x20#8, 0x60#8, 0x20#8, 0x20#8, 0x70#8]),
   (0x00A, [0xF0#8, 0x10#8, 0xF0#8, 0x80#8, 0xF0#8]), (0x00F, [0xF0#8, 0x10#8, 0xF0#8, 0x10#8, 0xF0#8]),
   (0x014, [0x90#8, 0x90#8, 0xF0#8, 0x10#8, 0x10#8]), (0x019, [0xF0#8, 0x80#8, 0xF0#8, 0x10#8, 0xF0#8]),
   (0x01E, [0xF0#8, 0x80#8, 0xF0#8, 0x90#8, 0xF0#8]), (0x023, [0xF0#8, 0x10#8, 0x20#8, 0x40#8, 0x40#8]),
   (0x028, [0xF0#8, 0x90#8, 0xF0#8, 0x90#8, 0xF0#8]), (0x02D, [0xF0#8, 0x90#8, 0xF0#8, 0x10#8, 0xF0#8]),
   (0x032, [0xF0#8, 0x90#8, 0xF0#8, 0x90#8, 0x90#8]), (0x037, [0xE0#8, 0x90#8, 0xE0#8, 0x90#8, 0xE0#8]),
   (0x03C, [0xF0#8, 0x80#8, 0x80#8, 0x80#8, 0xF0#8]), (0x041, [0xE0#8, 0x90#8, 0x90#8, 0x90#8, 0xE0#8]),
   (0x046, [0xF0#8, 0x80#8, 0xF0#8, 0x80#8, 0xF0#8]),
   (0x04B, [0xF0#8, 0x80#8, 0xF0#8, 0x80#8, 0x80#8])].all
    (fun p => State.reset.mem.readBytes p.1 5 == p.2) = true

/-! ## Encoding and decoding -/

/-- R65, R68: words of every family, written out from the opcode map. -/
def Obligations.DecodeWordsOfEveryFamily : Prop :=
  [(0x0123#16, Instr.sys 0x123#12), (0x00E0#16, .cls), (0x00EE#16, .ret), (0x1234#16, .jp 0x234#12),
   (0xB300#16, .jpV0 0x300#12), (0x30EE#16, .seImm 0 0xEE#8), (0x9010#16, .sneReg 0 1),
   (0xE59E#16, .skp 5), (0x6005#16, .ldImm 0 5#8), (0x8014#16, .addReg 0 1), (0x8ABE#16, .shl 10 11),
   (0xC30F#16, .rnd 3 0x0F#8), (0xA2F0#16, .ldI 0x2F0#12), (0xF133#16, .ldB 1),
   (0xF065#16, .ldMemLoad 0), (0xF40A#16, .ldVxK 4), (0xD015#16, .drw 0 1 5)].all
    (fun p => decodeWord p.1 == .ok p.2) = true

/-- Every well-formed instruction, with every operand value, is read back from its word, and from
its two bytes in memory order whatever follows them. -/
def Obligations.DecodeEncodeRoundTrip : Prop :=
  ∀ i : Instr, i.wellFormed = true →
    decodeWord (encode i) = .ok i ∧
    ∀ rest : List Byte, decodeBytes (bytesOfWord (encode i) ++ rest) = .ok (i, rest)

/-- Every word that decodes is the word of the instruction it decodes to, which is well-formed. -/
def Obligations.EncodeDecodeRoundTrip : Prop :=
  ∀ (w : Word) (i : Instr), decodeWord w = .ok i → i.wellFormed = true ∧ encode i = w

/-- R68: decode finds the one row of the opcode map that the word matches; where CLS or RET match,
SYS matches too and gives way; a word that no row matches is Unknown. -/
def Obligations.DecodeFindsTheUniqueRow : Prop :=
  (∀ (w : Word) (i : Instr), decodeWord w = .ok i →
    w &&& i.row.2 = i.row.1 ∧
    ∀ j : Instr, w &&& j.row.2 = j.row.1 →
      j.row = i.row ∨ (j.row = (Instr.sys 0#12).row ∧ (w = 0x00E0#16 ∨ w = 0x00EE#16))) ∧
  (∀ w : Word, (∀ j : Instr, w &&& j.row.2 ≠ j.row.1) → decodeWord w = .error (.unknownWord w)) ∧
  (∀ (w : Word) (r : Reject), decodeWord w = .error r →
    r = .unknownWord w ∧ ∀ j : Instr, w &&& j.row.2 ≠ j.row.1)

/-- R70: the Unknown words. -/
def Obligations.UnknownWordsAreExactly : Prop :=
  ∀ w : Word, decodeWord w = .error (.unknownWord w) ↔
    (w.toNat / 4096 = 0x5 ∧ w.toNat % 16 ≠ 0) ∨
    (w.toNat / 4096 = 0x8 ∧ w.toNat % 16 ∈ [0x8, 0x9, 0xA, 0xB, 0xC, 0xD, 0xF]) ∨
    (w.toNat / 4096 = 0x9 ∧ w.toNat % 16 ≠ 0) ∨
    (w.toNat / 4096 = 0xE ∧ w.toNat % 256 ∉ [0x9E, 0xA1]) ∨
    (w.toNat / 4096 = 0xF ∧
      w.toNat % 256 ∉ [0x07, 0x0A, 0x15, 0x18, 0x1E, 0x29, 0x33, 0x55, 0x65])

/-- R73, the definition of an aliased word: M(j) is the match value of a row j other than SYS. -/
def Obligations.AliasedWordsAreExactly : Prop :=
  ∀ w : Word, aliased w = true ↔
    (∃ i j : Instr, decodeWord w = .ok i ∧ i.row ≠ (Instr.sys 0#12).row ∧
      j.row ≠ (Instr.sys 0#12).row ∧ j.row ≠ i.row ∧
      w &&& j.row.1 = j.row.1 ∧ j.row.1 &&& ~~~i.row.1 ≠ 0#16) ∨
    (((∃ nnn : Addr, decodeWord w = .ok (.sys nnn)) ∨ decodeWord w = .error (.unknownWord w)) ∧
      ∃ j : Instr, j.row ≠ (Instr.sys 0#12).row ∧ w &&& j.row.1 = j.row.1)

/-! ## The CPU tick -/

/-- A tick that fetches a word and does not refuse it runs the instruction it decodes to, on the
state with the event taken and pc advanced by 2. -/
def Obligations.StepRunsTheDecodedInstruction : Prop :=
  ∀ (s : State) (i : Instr), Fetches s → decodeWord (wordAtPc s) = .ok i →
    ¬AliasRefused s (wordAtPc s) →
    step s = exec i (s.nextEvent.2.setPc (s.pc.toNat + 2))

/-- R66, R154: the two faults of the fetch, in their order; pc keeps the value A. -/
def Obligations.FetchFaults : Prop :=
  ∀ s : State, s.nextEvent.1 = .cpuTick → s.run = .running → s.cpuMode = .exec →
    ((s.cfg.faultOnOddPc = true ∧ s.pc.toNat % 2 = 1) →
      ∃ t, step s = .next t ∧ FaultedFrom s.nextEvent.2 t ⟨.misalignedPc, s.pc, 0#16, 0#16⟩) ∧
    (¬(s.cfg.faultOnOddPc = true ∧ s.pc.toNat % 2 = 1) → 0xFFF < s.pc.toNat + 1 →
      ∃ t, step s = .next t ∧ FaultedFrom s.nextEvent.2 t
        ⟨.memoryOutOfRange, s.pc, 0#16, BitVec.ofNat 16 (max s.pc.toNat 0x1000)⟩)

/-- R73: in mode `alias_fault` an aliased word raises AliasedOpcode after the pc advance, instead of
executing. -/
def Obligations.AliasedWordFaults : Prop :=
  ∀ s : State, Fetches s → AliasRefused s (wordAtPc s) →
    ∃ t, step s = .next t ∧
      FaultedFrom (s.nextEvent.2.setPc (s.pc.toNat + 2)) t
        ⟨.aliasedOpcode, s.pc, wordAtPc s, 0#16⟩

/-- R71: an Unknown word, after the pc advance, raises UnknownOpcode or does nothing else. -/
def Obligations.UnknownWordFaultsOrDoesNothing : Prop :=
  ∀ (s : State) (r : Reject), Fetches s → decodeWord (wordAtPc s) = .error r →
    ¬AliasRefused s (wordAtPc s) →
    (s.cfg.unknownOpcode = .fault →
      ∃ t, step s = .next t ∧
        FaultedFrom (s.nextEvent.2.setPc (s.pc.toNat + 2)) t
          ⟨.unknownOpcode, s.pc, wordAtPc s, 0#16⟩) ∧
    (s.cfg.unknownOpcode = .nop →
      step s = .next (s.nextEvent.2.setPc (s.pc.toNat + 2)))

/-! ## Control transfer -/

/-- R80, R82, R84: SYS does nothing (pc stays A + 2); the targets of JP and JP V0, whose sum is not
masked to 12 bits; nothing else changes. For SYS 0x0E0 and SYS 0x0EE, which R80 excludes and no word
decodes to, the clause about `exec` is the model's DESIGN CHOICE (log 16). -/
def Obligations.SysAndJumps : Prop :=
  ∀ (nnn : Addr) (s : State),
    (nnn ≠ 0x0E0#12 → nnn ≠ 0x0EE#12 → Encodes (.sys nnn) nnn.toNat) ∧
    exec (.sys nnn) s = .next s ∧
    Encodes (.jp nnn) (0x1000 + nnn.toNat) ∧
    Encodes (.jpV0 nnn) (0xB000 + nnn.toNat) ∧
    (∃ t, exec (.jp nnn) s = .next t ∧ t.pc.toNat = nnn.toNat ∧ WritesOnlyPc s t) ∧
    (∃ t, exec (.jpV0 nnn) s = .next t ∧
      t.pc.toNat = (nnn.toNat + (s.getV 0).toNat) % 65536 ∧ WritesOnlyPc s t)

/-- R83, R30: CALL pushes A + 2 and jumps; with sp = 16 it raises StackOverflow. -/
def Obligations.CallPushesOrOverflows : Prop :=
  ∀ (nnn : Addr) (s : State) (A : Word), s.pc = A + 2#16 →
    Encodes (.call nnn) (0x2000 + nnn.toNat) ∧
    (∀ h : s.sp.val < 16, ∃ t, exec (.call nnn) s = .next t ∧
      t.pc.toNat = nnn.toNat ∧ t.sp.val = s.sp.val + 1 ∧ t.S[s.sp.val] = s.pc ∧
      (∀ k : Fin 16, k.val ≠ s.sp.val → t.S[k.val] = s.S[k.val]) ∧
      KeepsRegsExcept [] s t ∧ t.I = s.I ∧ KeepsMem s t ∧ KeepsTimers s t ∧ KeepsControl s t ∧
      t.orders = s.orders ∧ KeepsPorts s t ∧ KeepsInputs s t) ∧
    (s.sp.val = 16 → ∃ t, exec (.call nnn) s = .next t ∧
      FaultedFrom s t ⟨.stackOverflow, A, BitVec.ofNat 16 (0x2000 + nnn.toNat), 0#16⟩)

/-- R81, R31: RET pops into pc and leaves the slot; with sp = 0 it raises StackUnderflow. -/
def Obligations.RetPopsOrUnderflows : Prop :=
  ∀ (s : State) (A : Word), s.pc = A + 2#16 →
    Encodes .ret 0x00EE ∧
    (∀ (k : Nat) (h : k < 16), s.sp.val = k + 1 → ∃ t, exec .ret s = .next t ∧
      t.pc = s.S[k] ∧ t.sp.val = k ∧ t.S = s.S ∧
      KeepsRegsExcept [] s t ∧ t.I = s.I ∧ KeepsMem s t ∧ KeepsTimers s t ∧ KeepsControl s t ∧
      t.orders = s.orders ∧ KeepsPorts s t ∧ KeepsInputs s t) ∧
    (s.sp.val = 0 → ∃ t, exec .ret s = .next t ∧
      FaultedFrom s t ⟨.stackUnderflow, A, 0x00EE#16, 0#16⟩)

/-- R85, its two halves: a RET that meets the frame a CALL pushed, on top of the stack again,
returns to the instruction after the CALL with sp as before it. -/
def Obligations.CallThenRetReturns : Prop :=
  ∀ (nnn : Addr) (s : State) (h : s.sp.val < 16), ∃ t, exec (.call nnn) s = .next t ∧
    ∀ u : State, u.sp = t.sp → u.S[s.sp.val] = t.S[s.sp.val] →
      ∃ v, exec .ret u = .next v ∧ v.pc = s.pc ∧ v.sp = s.sp

/-- No instruction changes a frame below the top of the stack, and none but RET changes the top
frame's slot or removes it: so a subroutine with balanced calls gives the caller's frame back. -/
def Obligations.LiveFramesAreKept : Prop :=
  ∀ (i : Instr) (s t : State), exec i s = .next t →
    (∀ k : Fin 16, k.val < s.sp.val → t.S[k.val] = s.S[k.val]) ∧
    (i ≠ .ret → s.sp.val ≤ t.sp.val)

/-! ## Skips -/

/-- R90, R91: SE Vx, kk and SNE Vx, kk. -/
def Obligations.SkipsOnImmediate : Prop :=
  ∀ (x : Reg) (kk : Byte) (s : State),
    Encodes (.seImm x kk) (0x3000 + x.val * 256 + kk.toNat) ∧
    Encodes (.sneImm x kk) (0x4000 + x.val * 256 + kk.toNat) ∧
    (∃ t, exec (.seImm x kk) s = .next t ∧ WritesOnlyPc s t ∧
      (s.getV x = kk → t.pc = s.pc + 2#16) ∧ (s.getV x ≠ kk → t.pc = s.pc)) ∧
    (∃ t, exec (.sneImm x kk) s = .next t ∧ WritesOnlyPc s t ∧
      (s.getV x ≠ kk → t.pc = s.pc + 2#16) ∧ (s.getV x = kk → t.pc = s.pc))

/-- R92, R93: SE Vx, Vy and SNE Vx, Vy. -/
def Obligations.SkipsOnRegister : Prop :=
  ∀ (x y : Reg) (s : State),
    Encodes (.seReg x y) (0x5000 + x.val * 256 + y.val * 16) ∧
    Encodes (.sneReg x y) (0x9000 + x.val * 256 + y.val * 16) ∧
    (∃ t, exec (.seReg x y) s = .next t ∧ WritesOnlyPc s t ∧
      (s.getV x = s.getV y → t.pc = s.pc + 2#16) ∧ (s.getV x ≠ s.getV y → t.pc = s.pc)) ∧
    (∃ t, exec (.sneReg x y) s = .next t ∧ WritesOnlyPc s t ∧
      (s.getV x ≠ s.getV y → t.pc = s.pc + 2#16) ∧ (s.getV x = s.getV y → t.pc = s.pc))

/-- R94, R95: SKP Vx and SKNP Vx on one sample of the input port. -/
def Obligations.SkipsOnKey : Prop :=
  ∀ (x : Reg) (s : State),
    Encodes (.skp x) (0xE09E + x.val * 256) ∧
    Encodes (.sknp x) (0xE0A1 + x.val * 256) ∧
    (∃ t, exec (.skp x) s = .next t ∧
      ((∃ c : Key, s.sampleKey.1 = some c ∧ c.val = (s.getV x).toNat) → t.pc = s.pc + 2#16) ∧
      ((∀ c : Key, s.sampleKey.1 = some c → c.val ≠ (s.getV x).toNat) → t.pc = s.pc) ∧
      KeepsRegsExcept [] s t ∧ t.I = s.I ∧ KeepsCore s t ∧ KeepsPorts s t ∧ TakesOneKey s t) ∧
    (∃ t, exec (.sknp x) s = .next t ∧
      ((∃ c : Key, s.sampleKey.1 = some c ∧ c.val = (s.getV x).toNat) → t.pc = s.pc) ∧
      ((∀ c : Key, s.sampleKey.1 = some c → c.val ≠ (s.getV x).toNat) → t.pc = s.pc + 2#16) ∧
      KeepsRegsExcept [] s t ∧ t.I = s.I ∧ KeepsCore s t ∧ KeepsPorts s t ∧ TakesOneKey s t)

/-! ## ALU -/

/-- R102, R104: LD Vx, kk and LD Vx, Vy. -/
def Obligations.RegisterLoads : Prop :=
  ∀ (x y : Reg) (kk : Byte) (s : State),
    Encodes (.ldImm x kk) (0x6000 + x.val * 256 + kk.toNat) ∧
    Encodes (.ldReg x y) (0x8000 + x.val * 256 + y.val * 16) ∧
    (∃ t, exec (.ldImm x kk) s = .next t ∧ t.getV x = kk ∧ WritesOnlyRegs [x] s t) ∧
    (∃ t, exec (.ldReg x y) s = .next t ∧ t.getV x = s.getV y ∧ WritesOnlyRegs [x] s t)

/-- R103: ADD Vx, kk wraps and leaves VF, unless `ADD_IMM_SETS_VF`. -/
def Obligations.AddImmediate : Prop :=
  ∀ (x : Reg) (kk : Byte) (s : State),
    Encodes (.addImm x kk) (0x7000 + x.val * 256 + kk.toNat) ∧
    ∃ t, exec (.addImm x kk) s = .next t ∧
    (s.cfg.addImmSetsVf = false → t.getV x = s.getV x + kk ∧ WritesOnlyRegs [x] s t) ∧
    (s.cfg.addImmSetsVf = true →
      WritesResultAndFlag x (s.getV x + kk) (decide ((s.getV x).toNat + kk.toNat > 255)) s t)

/-- R105, R106, R107: OR, AND, XOR. -/
def Obligations.LogicOperations : Prop :=
  ∀ (x y : Reg) (s : State),
    Encodes (.orReg x y) (0x8001 + x.val * 256 + y.val * 16) ∧
    Encodes (.andReg x y) (0x8002 + x.val * 256 + y.val * 16) ∧
    Encodes (.xorReg x y) (0x8003 + x.val * 256 + y.val * 16) ∧
    (∃ t, exec (.orReg x y) s = .next t ∧ WritesLogicResult x (s.getV x ||| s.getV y) s t) ∧
    (∃ t, exec (.andReg x y) s = .next t ∧ WritesLogicResult x (s.getV x &&& s.getV y) s t) ∧
    (∃ t, exec (.xorReg x y) s = .next t ∧ WritesLogicResult x (s.getV x ^^^ s.getV y) s t)

/-- R108, R101: ADD Vx, Vy is the sum modulo 256 with VF = carry. -/
def Obligations.AddRegisters : Prop :=
  ∀ (x y : Reg) (s : State),
    Encodes (.addReg x y) (0x8004 + x.val * 256 + y.val * 16) ∧
    ∃ t, exec (.addReg x y) s = .next t ∧
    WritesResultAndFlag x (s.getV x + s.getV y)
      (decide ((s.getV x).toNat + (s.getV y).toNat > 255)) s t

/-- R109, R110, R101: SUB and SUBN are the differences modulo 256 with VF = no borrow. -/
def Obligations.SubtractRegisters : Prop :=
  ∀ (x y : Reg) (s : State),
    Encodes (.subReg x y) (0x8005 + x.val * 256 + y.val * 16) ∧
    Encodes (.subnReg x y) (0x8007 + x.val * 256 + y.val * 16) ∧
    (∃ t, exec (.subReg x y) s = .next t ∧
      WritesResultAndFlag x (s.getV x - s.getV y)
        (decide ((s.getV x).toNat ≥ (s.getV y).toNat)) s t) ∧
    (∃ t, exec (.subnReg x y) s = .next t ∧
      WritesResultAndFlag x (s.getV y - s.getV x)
        (decide ((s.getV y).toNat ≥ (s.getV x).toNat)) s t)

/-- R111: SHR writes the flag first and then reads its operand again. -/
def Obligations.ShiftRight : Prop :=
  ∀ (x y src : Reg) (s : State),
    (s.cfg.shiftSource = .vx → src = x) → (s.cfg.shiftSource = .vy → src = y) →
    Encodes (.shr x y) (0x8006 + x.val * 256 + y.val * 16) ∧
    ∃ t, exec (.shr x y) s = .next t ∧ WritesOnlyRegs [x, VF] s t ∧
      (x ≠ VF → (t.getV VF).toNat = (s.getV src).toNat % 2) ∧
      (src ≠ VF → (t.getV x).toNat = (s.getV src).toNat / 2) ∧
      (src = VF → t.getV x = 0#8)

/-- R112: SHL writes the flag first and then reads its operand again. -/
def Obligations.ShiftLeft : Prop :=
  ∀ (x y src : Reg) (s : State),
    (s.cfg.shiftSource = .vx → src = x) → (s.cfg.shiftSource = .vy → src = y) →
    Encodes (.shl x y) (0x800E + x.val * 256 + y.val * 16) ∧
    ∃ t, exec (.shl x y) s = .next t ∧ WritesOnlyRegs [x, VF] s t ∧
      (x ≠ VF → (t.getV VF).toNat = (s.getV src).toNat / 128) ∧
      (src ≠ VF → (t.getV x).toNat = (s.getV src).toNat * 2 % 256) ∧
      (src = VF → (t.getV x).toNat = (s.getV src).toNat / 128 * 2)

/-- R113: RND is one draw of the random port masked by kk, whatever is drawn. -/
def Obligations.RandomMasked : Prop :=
  ∀ (x : Reg) (kk : Byte) (s : State),
    Encodes (.rnd x kk) (0xC000 + x.val * 256 + kk.toNat) ∧
    ∃ t, exec (.rnd x kk) s = .next t ∧
    t.getV x = s.drawRand.1 &&& kk ∧ t.getV x &&& ~~~kk = 0#8 ∧
    KeepsRegsExcept [x] s t ∧ t.I = s.I ∧ t.pc = s.pc ∧ KeepsCore s t ∧ KeepsPorts s t ∧
    t.schedule = s.schedule ∧ t.keys = s.keys ∧ t.rands = s.drawRand.2.rands

/-! ## Address register and memory -/

/-- R120, R121, R122: LD I, ADD I and LD F; every write of I is masked to 12 bits. -/
def Obligations.AddressRegisterWrites : Prop :=
  ∀ (nnn : Addr) (x : Reg) (s : State),
    Encodes (.ldI nnn) (0xA000 + nnn.toNat) ∧
    Encodes (.addI x) (0xF01E + x.val * 256) ∧
    Encodes (.ldF x) (0xF029 + x.val * 256) ∧
    (∃ t, exec (.ldI nnn) s = .next t ∧ t.I.toNat = nnn.toNat ∧ WritesOnlyI s t) ∧
    (∃ t, exec (.addI x) s = .next t ∧
      t.I.toNat = (s.I.toNat + (s.getV x).toNat) % 4096 ∧ WritesOnlyI s t) ∧
    (∃ t, exec (.ldF x) s = .next t ∧ WritesOnlyI s t ∧
      (s.cfg.fontDigitMask = false → t.I.toNat = 5 * (s.getV x).toNat) ∧
      (s.cfg.fontDigitMask = true → t.I.toNat = 5 * ((s.getV x).toNat % 16)))

/-- R124: LD B stores hundreds, tens and ones at I, I + 1, I + 2, and nothing else; out of range it
raises MemoryOutOfRange. -/
def Obligations.BcdStore : Prop :=
  ∀ (x : Reg) (s : State) (A : Word), s.pc = A + 2#16 → s.mem.wf = true →
    Encodes (.ldB x) (0xF033 + x.val * 256) ∧
    (s.I.toNat + 2 ≤ 0xFFF → ∃ t, exec (.ldB x) s = .next t ∧
      (t.mem.read (s.effAddr 0)).toNat = (s.getV x).toNat / 100 ∧
      (t.mem.read (s.effAddr 1)).toNat = (s.getV x).toNat / 10 % 10 ∧
      (t.mem.read (s.effAddr 2)).toNat = (s.getV x).toNat % 10 ∧
      KeepsMemOutside (s.effAddr 0) 3 s t ∧
      KeepsRegsExcept [] s t ∧ t.I = s.I ∧ t.pc = s.pc ∧ KeepsRest s t ∧ KeepsPorts s t ∧
      KeepsInputs s t) ∧
    (0xFFF < s.I.toNat + 2 → ∃ t, exec (.ldB x) s = .next t ∧
      FaultedFrom s t
        ⟨.memoryOutOfRange, A, BitVec.ofNat 16 (0xF033 + x.val * 256), 0x1000#16⟩)

/-- R127: the digits that LD B stores give the value back, and each is at most 9. -/
def Obligations.BcdRoundTrip : Prop :=
  ∀ (x : Reg) (s : State), s.mem.wf = true → s.I.toNat ≤ 0xFFD →
    ∃ t, exec (.ldB x) s = .next t ∧
      (t.mem.read s.I.toNat).toNat * 100 + (t.mem.read (s.I.toNat + 1)).toNat * 10 +
        (t.mem.read (s.I.toNat + 2)).toNat = (s.getV x).toNat ∧
      ∀ k < 3, (t.mem.read (s.I.toNat + k)).toNat ≤ 9

/-- R125: LD [I], Vx stores V0..Vx at I .. I + x, and nothing else; out of range it raises
MemoryOutOfRange. -/
def Obligations.RegisterStore : Prop :=
  ∀ (x : Reg) (s : State) (A : Word), s.pc = A + 2#16 → s.mem.wf = true →
    Encodes (.ldMemStore x) (0xF055 + x.val * 256) ∧
    (s.I.toNat + x.val ≤ 0xFFF → ∃ t, exec (.ldMemStore x) s = .next t ∧
      (∀ k : Reg, k ≤ x → t.mem.read (s.effAddr k.val) = s.getV k) ∧
      KeepsMemOutside (s.effAddr 0) (x.val + 1) s t ∧ IAfterTransfer x s t ∧
      KeepsRegsExcept [] s t ∧ t.pc = s.pc ∧ KeepsRest s t ∧ KeepsPorts s t ∧
      KeepsInputs s t) ∧
    (0xFFF < s.I.toNat + x.val → ∃ t, exec (.ldMemStore x) s = .next t ∧
      FaultedFrom s t
        ⟨.memoryOutOfRange, A, BitVec.ofNat 16 (0xF055 + x.val * 256), 0x1000#16⟩)

/-- R126: LD Vx, [I] loads V0..Vx from I .. I + x; out of range it raises MemoryOutOfRange. -/
def Obligations.RegisterLoad : Prop :=
  ∀ (x : Reg) (s : State) (A : Word), s.pc = A + 2#16 →
    Encodes (.ldMemLoad x) (0xF065 + x.val * 256) ∧
    (s.I.toNat + x.val ≤ 0xFFF → ∃ t, exec (.ldMemLoad x) s = .next t ∧
      (∀ k : Reg, k ≤ x → t.getV k = s.mem.read (s.effAddr k.val)) ∧
      (∀ k : Reg, x < k → t.getV k = s.getV k) ∧ IAfterTransfer x s t ∧
      t.pc = s.pc ∧ KeepsCore s t ∧ KeepsPorts s t ∧ KeepsInputs s t) ∧
    (0xFFF < s.I.toNat + x.val → ∃ t, exec (.ldMemLoad x) s = .next t ∧
      FaultedFrom s t
        ⟨.memoryOutOfRange, A, BitVec.ofNat 16 (0xF065 + x.val * 256), 0x1000#16⟩)

/-- R57, R198: the word executed at pc after a store is the word as stored. -/
def Obligations.StoredWordIsFetched : Prop :=
  ∀ (s t u : State) (k : Reg), s.mem.wf = true → k < 15 → s.I.toNat + 15 ≤ 0xFFF →
    exec (.ldMemStore 15) s = .next t →
    u.mem = t.mem → u.pc.toNat = s.I.toNat + k.val →
    wordAtPc u = BitVec.ofNat 16 ((s.getV k).toNat * 256 + (s.getV (k + 1)).toNat)

/-! ## Timers and key wait -/

/-- R130, R131, R132: the timer instructions; no port is called. -/
def Obligations.TimerInstructions : Prop :=
  ∀ (x : Reg) (s : State),
    Encodes (.ldVxDt x) (0xF007 + x.val * 256) ∧
    Encodes (.ldDtVx x) (0xF015 + x.val * 256) ∧
    Encodes (.ldStVx x) (0xF018 + x.val * 256) ∧
    (∃ t, exec (.ldVxDt x) s = .next t ∧ t.getV x = s.DT ∧ WritesOnlyRegs [x] s t) ∧
    (∃ t, exec (.ldDtVx x) s = .next t ∧ t.DT = s.getV x ∧ t.ST = s.ST ∧
      KeepsRegsExcept [] s t ∧ t.I = s.I ∧ t.pc = s.pc ∧ KeepsMem s t ∧ KeepsStack s t ∧
      KeepsControl s t ∧ t.orders = s.orders ∧ KeepsPorts s t ∧ KeepsInputs s t) ∧
    (∃ t, exec (.ldStVx x) s = .next t ∧ t.ST = s.getV x ∧ t.DT = s.DT ∧
      KeepsRegsExcept [] s t ∧ t.I = s.I ∧ t.pc = s.pc ∧ KeepsMem s t ∧ KeepsStack s t ∧
      KeepsControl s t ∧ t.orders = s.orders ∧ KeepsPorts s t ∧ KeepsInputs s t)

/-- R133: LD Vx, K stores a key that is held at once; with no key the CPU waits. -/
def Obligations.KeyLoadOrWait : Prop :=
  ∀ (x : Reg) (s : State),
    Encodes (.ldVxK x) (0xF00A + x.val * 256) ∧
    (∀ c : Key, s.sampleKey.1 = some c → ∃ t, exec (.ldVxK x) s = .next t ∧
      (t.getV x).toNat = c.val ∧ KeepsRegsExcept [x] s t ∧ t.I = s.I ∧ t.pc = s.pc ∧
      KeepsCore s t ∧ KeepsPorts s t ∧ TakesOneKey s t) ∧
    (s.sampleKey.1 = none → ∃ t, exec (.ldVxK x) s = .next t ∧
      t.cpuMode = .waitKey x ∧ KeepsRegsExcept [] s t ∧ t.I = s.I ∧ t.pc = s.pc ∧
      KeepsMem s t ∧ KeepsStack s t ∧ KeepsTimers s t ∧ t.run = s.run ∧ t.beep = s.beep ∧
      t.fault = s.fault ∧ t.rom = s.rom ∧ t.cfg = s.cfg ∧ t.orders = s.orders ∧
      KeepsPorts s t ∧ TakesOneKey s t)

/-- R134: a CPU tick in mode WaitKey(x) fetches nothing and polls once; timer ticks go on between
the polls. -/
def Obligations.KeyWaitPolls : Prop :=
  ∀ (s : State) (x : Reg), s.run = .running → s.cpuMode = .waitKey x →
    (s.nextEvent.1 = .cpuTick → ∃ t, step s = .next t ∧
      (∀ c : Key, s.sampleKey.1 = some c →
        (t.getV x).toNat = c.val ∧ t.cpuMode = .exec ∧ KeepsRegsExcept [x] s t) ∧
      (s.sampleKey.1 = none → t.cpuMode = .waitKey x ∧ KeepsRegsExcept [] s t) ∧
      t.pc = s.pc ∧ t.I = s.I ∧ KeepsMem s t ∧ KeepsStack s t ∧ KeepsTimers s t ∧
      t.run = .running ∧ t.beep = s.beep ∧ t.fault = s.fault ∧ t.rom = s.rom ∧ t.cfg = s.cfg ∧
      KeepsPorts s t ∧ t.keys = s.sampleKey.2.keys ∧ t.rands = s.rands ∧ t.orders = s.orders) ∧
    (s.nextEvent.1 = .timerTick → ∃ t, step s = .next t ∧
      t.DT.toNat = s.DT.toNat - 1 ∧ t.ST.toNat = s.ST.toNat - 1 ∧ t.cpuMode = .waitKey x ∧
      KeepsRegsExcept [] s t ∧ t.keys = s.keys)

/-! ## Display -/

/-- R140, R146: CLS clears the display through the port and changes no state of the core. -/
def Obligations.ClearDisplay : Prop :=
  ∀ s : State, Encodes .cls 0x00E0 ∧ ∃ t, exec .cls s = .next t ∧
    (∀ X Y : Nat, t.display.pixel X Y = false) ∧ t.ports = s.ports ++ [.displayClear] ∧
    t.toBlock = s.toBlock ∧ t.cfg = s.cfg ∧ KeepsInputs s t ∧ t.orders = s.orders

/-- R142, R143: DRW draws n bytes from I at (Vx, Vy), as they are before VF is written, and writes
the collision to VF; with n = 0 it makes no range check, draws the empty sprite and leaves VF = 0;
out of range it raises MemoryOutOfRange and makes no draw call. -/
def Obligations.DrawSprite : Prop :=
  ∀ (x y : Reg) (n : Fin 16) (s : State) (A : Word), s.pc = A + 2#16 →
    Encodes (.drw x y n) (0xD000 + x.val * 256 + y.val * 16 + n.val) ∧
    ((n = 0 ∨ s.I.toNat + n.val - 1 ≤ 0xFFF) → ∃ (t : State) (bytes : List Byte),
      exec (.drw x y n) s = .next t ∧
      bytes.length = n.val ∧
      (∀ r < n.val, bytes.getD r 0#8 = s.mem.read (s.effAddr r)) ∧
      t.display = (s.display.draw bytes (s.getV x) (s.getV y)).1 ∧
      t.getV VF = b2i (s.display.draw bytes (s.getV x) (s.getV y)).2 ∧
      t.ports = s.ports ++ [.displayDraw bytes (s.getV x) (s.getV y)] ∧
      (n = 0 → bytes = [] ∧ t.getV VF = 0#8 ∧ t.display = s.display) ∧
      KeepsRegsExcept [VF] s t ∧ t.I = s.I ∧ t.pc = s.pc ∧ KeepsCore s t ∧ KeepsInputs s t) ∧
    (0 < n.val → 0xFFF < s.I.toNat + n.val - 1 → ∃ t, exec (.drw x y n) s = .next t ∧
      FaultedFrom s t
        ⟨.memoryOutOfRange, A,
          BitVec.ofNat 16 (0xD000 + x.val * 256 + y.val * 16 + n.val), 0x1000#16⟩)

/-- R145: after a draw a pixel is flipped exactly when the sprite has a set bit there, and a
collision is reported exactly when one of those pixels was set. -/
def Obligations.DrawContract : Prop :=
  ∀ (fb : FrameBuffer) (bytes : List Byte) (x y : Byte), bytes.length ≤ 15 →
    (∀ X Y : Nat, X < 64 → Y < 32 →
      (SpriteBit bytes x.toNat y.toNat X Y →
        (fb.draw bytes x y).1.pixel X Y = !fb.pixel X Y) ∧
      (¬SpriteBit bytes x.toNat y.toNat X Y →
        (fb.draw bytes x y).1.pixel X Y = fb.pixel X Y)) ∧
    ((fb.draw bytes x y).2 = true ↔
      ∃ X Y : Nat, X < 64 ∧ Y < 32 ∧ SpriteBit bytes x.toNat y.toNat X Y ∧
        fb.pixel X Y = true)

/-- R144: drawing a sprite of at most 15 bytes twice at the same place restores every pixel, and the
second draw collides exactly when the first one turned a pixel on. -/
def Obligations.DoubleDrawRestores : Prop :=
  ∀ (fb : FrameBuffer) (bytes : List Byte) (x y : Byte), bytes.length ≤ 15 →
    ((fb.draw bytes x y).1.draw bytes x y).1 = fb ∧
    (((fb.draw bytes x y).1.draw bytes x y).2 = true ↔
      ∃ X Y : Nat, X < 64 ∧ Y < 32 ∧ fb.pixel X Y = false ∧
        (fb.draw bytes x y).1.pixel X Y = true)

/-! ## Faults -/

/-- R152, R153: the only way from Running to Faulted is a CPU tick, and it is precise: everything
but pc, the record, `cpu_mode` and the beep is as before the tick. pc is A when the fetch faulted
and A + 2 otherwise; the only port call is stopBeep. -/
def Obligations.FaultsArePrecise : Prop :=
  ∀ s t : State, s.run = .running → step s = .next t → t.run = .faulted →
    s.nextEvent.1 = .cpuTick ∧ t.fault.addr = s.pc ∧ t.fault.cause ≠ .none ∧
    t.cpuMode = .exec ∧ t.beep = false ∧
    t.ports = s.ports ++ (if s.beep then [PortCall.stopBeep] else []) ∧
    t.V = s.V ∧ t.I = s.I ∧ KeepsStack s t ∧ KeepsTimers s t ∧ t.mem = s.mem ∧
    t.rom = s.rom ∧ t.cfg = s.cfg ∧ t.display = s.display ∧
    ((s.fetchInRange = true ∧ s.oddPcFaults = false) → t.pc = s.pc + 2#16) ∧
    (¬(s.fetchInRange = true ∧ s.oddPcFaults = false) → t.pc = s.pc)

/-- R155: Faulted is terminal: whatever event comes, the block, the parameters and the display stay
as they are, and no port is called (a host read returns its result). -/
def Obligations.FaultedIsTerminal : Prop :=
  ∀ s : State, s.run = .faulted → ∃ t, step s = .next t ∧ t.toBlock = s.toBlock ∧
    t.cfg = s.cfg ∧ t.display = s.display ∧
    (s.nextEvent.1 ≠ .host .readState → t.ports = s.ports)

/-- No step ends in a fault of the model or in a refusal: every state has a next one. That a fault is
a next state, and that an event in Stopped or Faulted is a step at all, is the model's DESIGN CHOICE
(log 1). -/
def Obligations.EveryStepHasANextState : Prop :=
  ∀ s : State, ∃ t, step s = .next t

/-! ## Timer engine -/

/-- R161, R162: one timer tick: the audio port follows ST before the decrement, called only on a
change, then both timers count down to 0. -/
def Obligations.TimerTickEffect : Prop :=
  ∀ s : State, s.nextEvent.1 = .timerTick → s.run = .running →
    ∃ t, step s = .next t ∧
      t.DT.toNat = s.DT.toNat - 1 ∧ t.ST.toNat = s.ST.toNat - 1 ∧
      t.beep = decide (0 < s.ST.toNat) ∧
      t.ports = s.ports ++
        (if 0 < s.ST.toNat then (if s.beep then [] else [PortCall.startBeep])
         else (if s.beep then [PortCall.stopBeep] else [])) ∧
      t.V = s.V ∧ t.I = s.I ∧ t.pc = s.pc ∧ KeepsStack s t ∧ t.mem = s.mem ∧
      t.run = s.run ∧ t.cpuMode = s.cpuMode ∧ t.fault = s.fault ∧ t.rom = s.rom ∧
      t.cfg = s.cfg ∧ t.display = s.display ∧ t.keys = s.keys ∧ t.rands = s.rands ∧
      t.orders = s.orders

/-- R161: a timer loaded with v reaches 0 after exactly v timer ticks, and stays 0; R162: a sound
timer loaded with v > 0 sounds for v timer ticks. -/
def Obligations.TimersCountDown : Prop :=
  ∀ (s : State) (k : Nat), s.run = .running →
    (timerTick^[k] s).DT.toNat = s.DT.toNat - k ∧
    (timerTick^[k] s).ST.toNat = s.ST.toNat - k ∧
    (0 < k → (timerTick^[k] s).beep = decide (k ≤ s.ST.toNat))

/-! ## Lifecycle and host commands -/

/-- R166, R37: in Stopped no tick of either kind is taken; the state stays as it is.
That such an event is a step at all is the model's DESIGN CHOICE (log 1). -/
def Obligations.StoppedTakesNoTick : Prop :=
  ∀ s : State, s.run = .stopped → s.nextEvent.1 = .cpuTick ∨ s.nextEvent.1 = .timerTick →
    step s = .next s.nextEvent.2

/-- R167, R168, R135: start and stop. -/
def Obligations.StartAndStop : Prop :=
  ∀ s : State,
    (s.nextEvent.1 = .host .start →
      (s.run = .stopped → step s = .next { s.nextEvent.2 with run := .running }) ∧
      (s.run = .running → step s = .next s.nextEvent.2)) ∧
    (s.nextEvent.1 = .host .stop →
      (s.run = .running →
        step s = .next { s.nextEvent.2 with run := .stopped, cpuMode := .exec }) ∧
      (s.run = .stopped → step s = .next s.nextEvent.2))

/-- R166: the lifecycle state changes only by the events of its table. -/
def Obligations.LifecycleTransitions : Prop :=
  ∀ s t : State, step s = .next t →
    (s.run = .faulted → t.run = .faulted) ∧
    (s.run = .stopped → t.run ≠ .faulted) ∧
    (s.run = .stopped → t.run = .running →
      s.nextEvent.1 = .host .start ∨ s.nextEvent.1 = .host (.reload true) ∨
      ∃ rom, s.nextEvent.1 = .host (.load rom true)) ∧
    (s.run = .running → t.run = .stopped →
      s.nextEvent.1 = .host .stop ∨ s.nextEvent.1 = .host .reset ∨
      s.nextEvent.1 = .host (.reload false) ∨ ∃ rom, s.nextEvent.1 = .host (.load rom false)) ∧
    (s.run = .running → t.run = .faulted → s.nextEvent.1 = .cpuTick)

/-- R190: what the reset command leaves, in Stopped and in Running. -/
def Obligations.ResetCommandEffect : Prop :=
  ∀ s : State, s.nextEvent.1 = .host .reset → s.run ≠ .faulted →
    ∃ t, step s = .next t ∧
      t.run = .stopped ∧ t.cpuMode = .exec ∧ (∀ r : Reg, t.getV r = 0#8) ∧ t.I = 0#16 ∧
      t.sp = 0 ∧ (∀ k : Fin 16, t.S[k.val] = 0#16) ∧ t.DT = 0#8 ∧ t.ST = 0#8 ∧
      (∀ a : Nat, a < 80 → t.mem.read a = s.cfg.font.toList.getD a 0#8) ∧
      (∀ a : Nat, 80 ≤ a → t.mem.read a = 0#8) ∧
      t.beep = false ∧ t.pc = 0x200#16 ∧ (∀ X Y : Nat, t.display.pixel X Y = false) ∧
      t.rom = s.rom ∧ t.fault = s.fault ∧ t.cfg = s.cfg ∧
      t.ports = s.ports ++ (if s.beep then [PortCall.stopBeep] else []) ++ [.displayClear]

/-- R193, R195: load resets, copies the ROM to 0x200, retains it and may start; a ROM of more than
3584 bytes is refused with no change of state. -/
def Obligations.LoadCommandEffect : Prop :=
  ∀ (s : State) (rom : List Byte) (autostart : Bool),
    s.nextEvent.1 = .host (.load rom autostart) → s.run ≠ .faulted →
    (3584 < rom.length → step s = .next (s.nextEvent.2.emit .romTooLarge)) ∧
    (rom.length ≤ 3584 → ∃ t, step s = .next t ∧
      t.run = (if autostart then .running else .stopped) ∧ t.cpuMode = .exec ∧
      (∀ r : Reg, t.getV r = 0#8) ∧ t.I = 0#16 ∧ t.sp = 0 ∧ (∀ k : Fin 16, t.S[k.val] = 0#16) ∧
      t.DT = 0#8 ∧ t.ST = 0#8 ∧ t.beep = false ∧ t.pc = 0x200#16 ∧
      (∀ k < rom.length, t.mem.read (0x200 + k) = rom.getD k 0#8) ∧
      (∀ a : Nat, a < 80 → t.mem.read a = s.cfg.font.toList.getD a 0#8) ∧
      (∀ a : Nat, 80 ≤ a → (a < 0x200 ∨ 0x200 + rom.length ≤ a) → t.mem.read a = 0#8) ∧
      t.rom = some rom ∧ t.fault = s.fault ∧ t.cfg = s.cfg ∧
      (∀ X Y : Nat, t.display.pixel X Y = false) ∧
      t.ports = s.ports ++ (if s.beep then [PortCall.stopBeep] else []) ++ [.displayClear])

/-- R194: reload is load with the retained ROM; with none it answers NoRomLoaded and changes no
state. -/
def Obligations.ReloadCommandEffect : Prop :=
  ∀ (s : State) (autostart : Bool), s.nextEvent.1 = .host (.reload autostart) →
    s.run ≠ .faulted →
    (s.rom = none → step s = .next (s.nextEvent.2.emit .noRomLoaded)) ∧
    (∀ rom u, s.rom = some rom → u.nextEvent = (.host (.load rom autostart), s.nextEvent.2) →
      step s = step u)

/-- R165, R164, R177: setting SPEED sets both nominal rates, whose ratio is 50:3 at every speed, and
changes no state; reading the state returns it. That a read returns the whole block and is recorded
in `ports` is the model's DESIGN CHOICE (log 6). -/
def Obligations.SpeedAndReadCommands : Prop :=
  (∀ c : Config, c.cpuHz * 3 = c.timerHz * 50) ∧
  ∀ s : State,
    (∀ q : Speed, s.nextEvent.1 = .host (.setSpeed q) → s.run ≠ .faulted →
      ∃ t, step s = .next t ∧ t.cfg.speed = q ∧ t.toBlock = s.toBlock ∧ t.display = s.display ∧
        t.ports = s.ports ∧ t.cfg.cpuHz = 1000 * q.val ∧ t.cfg.timerHz = 60 * q.val) ∧
    (s.nextEvent.1 = .host .readState →
      ∃ t, step s = .next t ∧ t.toBlock = s.toBlock ∧ t.cfg = s.cfg ∧ t.display = s.display ∧
        t.ports = s.ports ++ [.hostState s.toBlock])

/-! ## The whole machine -/

/-- R24, R23: a general register changes only as the destination the instruction names, or as VF
when the instruction is one that writes the flag. -/
def Obligations.OnlyNamedRegistersChange : Prop :=
  ∀ (i : Instr) (s t : State), exec i s = .next t → ∀ r : Reg, t.getV r ≠ s.getV r →
    r ∈ destRegs i ∨ (r = VF ∧ writesFlag s.cfg i = true)

/-- R46, R29, R25, R32, R33, R141: which instructions write memory, the stack, I, the timers and
the display. -/
def Obligations.WritersOfEachUnit : Prop :=
  ∀ (i : Instr) (s t : State), exec i s = .next t →
    (t.mem ≠ s.mem → ∃ x, i = .ldB x ∨ i = .ldMemStore x) ∧
    (t.sp ≠ s.sp → i = .ret ∨ ∃ nnn, i = .call nnn) ∧
    (t.S ≠ s.S → ∃ nnn, i = .call nnn) ∧
    (t.I ≠ s.I → (∃ nnn, i = .ldI nnn) ∨ (∃ x, i = .addI x ∨ i = .ldF x) ∨
      (s.cfg.memIncrementsI = true ∧ ∃ x, i = .ldMemStore x ∨ i = .ldMemLoad x)) ∧
    (t.DT ≠ s.DT → ∃ x, i = .ldDtVx x) ∧ (t.ST ≠ s.ST → ∃ x, i = .ldStVx x) ∧
    (t.display ≠ s.display → i = .cls ∨ ∃ x y n, i = .drw x y n) ∧ t.rom = s.rom ∧ t.cfg = s.cfg

/-- R33, R160: no instruction reads ST: with another value in ST an instruction does the same, and
the value stays unless the instruction writes ST. -/
def Obligations.NoInstructionReadsST : Prop :=
  ∀ (i : Instr) (s t : State) (v : Byte), exec i s = .next t →
    exec i (s.setST v) = .next (if (∃ x, i = .ldStVx x) then t else t.setST v)

/-- R136, R175, R172, R173, R152: which instructions sample the input port, draw from the random
port, and call the display port; a port call by any other instruction is a fault's stopBeep. The
flag-order choice is taken only with `VF_ORDER = either`, and no instruction takes an event. -/
def Obligations.UsersOfEachPort : Prop :=
  ∀ (i : Instr) (s t : State), exec i s = .next t →
    (t.keys ≠ s.keys → ∃ x, i = .skp x ∨ i = .sknp x ∨ i = .ldVxK x) ∧
    (t.rands ≠ s.rands → ∃ x kk, i = .rnd x kk) ∧
    (t.orders ≠ s.orders → s.cfg.vfOrder = .either ∧ writesFlag s.cfg i = true) ∧
    t.schedule = s.schedule ∧
    (t.ports ≠ s.ports →
      (i = .cls ∧ t.ports = s.ports ++ [.displayClear]) ∨
      (∃ x y n bytes, i = .drw x y n ∧
        t.ports = s.ports ++ [.displayDraw bytes (s.getV x) (s.getV y)]) ∨
      (s.beep = true ∧ t.run = .faulted ∧ t.ports = s.ports ++ [.stopBeep]))

/-- R36: no step changes a parameter but SPEED, and that only by the host's command. -/
def Obligations.ParametersStay : Prop :=
  ∀ s t : State, step s = .next t →
    t.cfg = { s.cfg with speed := t.cfg.speed } ∧
    ((∀ q, s.nextEvent.1 ≠ .host (.setSpeed q)) → t.cfg = s.cfg)

/-- Every step keeps the invariant of the core. -/
def Obligations.StepKeepsInvariant : Prop :=
  ∀ s t : State, Inv s → step s = .next t → Inv t

/-- Both invariants hold at reset. -/
def Obligations.InvariantsHoldAtReset : Prop := Inv State.reset ∧ PcBounded State.reset

/-- R28: every step keeps pc at most 0x10FE, given that no stack slot holds more than 0x1000. -/
def Obligations.StepKeepsPcBounded : Prop :=
  ∀ s t : State, PcBounded s → step s = .next t → PcBounded t
end

