-- ==== Sys2Proof/Laws/State.lean ====
section
/-! SUPPORT. What each single-field update of `Machine/Ops.lean` does to each field of the state:
one lemma per field per update, all true by definition. -/

namespace Sys2Proof.Machine

/-! ### setV -/

@[simp] theorem State.setV_V (s : State) (x : Reg) (v : Byte) : (s.setV x v).V = s.V.set x.val v := rfl
@[simp] theorem State.setV_I (s : State) (x : Reg) (v : Byte) : (s.setV x v).I = s.I := rfl
@[simp] theorem State.setV_pc (s : State) (x : Reg) (v : Byte) : (s.setV x v).pc = s.pc := rfl
@[simp] theorem State.setV_sp (s : State) (x : Reg) (v : Byte) : (s.setV x v).sp = s.sp := rfl
@[simp] theorem State.setV_S (s : State) (x : Reg) (v : Byte) : (s.setV x v).S = s.S := rfl
@[simp] theorem State.setV_DT (s : State) (x : Reg) (v : Byte) : (s.setV x v).DT = s.DT := rfl
@[simp] theorem State.setV_ST (s : State) (x : Reg) (v : Byte) : (s.setV x v).ST = s.ST := rfl
@[simp] theorem State.setV_mem (s : State) (x : Reg) (v : Byte) : (s.setV x v).mem = s.mem := rfl
@[simp] theorem State.setV_run (s : State) (x : Reg) (v : Byte) : (s.setV x v).run = s.run := rfl
@[simp] theorem State.setV_cpuMode (s : State) (x : Reg) (v : Byte) : (s.setV x v).cpuMode = s.cpuMode := rfl
@[simp] theorem State.setV_beep (s : State) (x : Reg) (v : Byte) : (s.setV x v).beep = s.beep := rfl
@[simp] theorem State.setV_fault (s : State) (x : Reg) (v : Byte) : (s.setV x v).fault = s.fault := rfl
@[simp] theorem State.setV_rom (s : State) (x : Reg) (v : Byte) : (s.setV x v).rom = s.rom := rfl
@[simp] theorem State.setV_cfg (s : State) (x : Reg) (v : Byte) : (s.setV x v).cfg = s.cfg := rfl
@[simp] theorem State.setV_display (s : State) (x : Reg) (v : Byte) : (s.setV x v).display = s.display := rfl
@[simp] theorem State.setV_schedule (s : State) (x : Reg) (v : Byte) : (s.setV x v).schedule = s.schedule := rfl
@[simp] theorem State.setV_keys (s : State) (x : Reg) (v : Byte) : (s.setV x v).keys = s.keys := rfl
@[simp] theorem State.setV_rands (s : State) (x : Reg) (v : Byte) : (s.setV x v).rands = s.rands := rfl
@[simp] theorem State.setV_orders (s : State) (x : Reg) (v : Byte) : (s.setV x v).orders = s.orders := rfl
@[simp] theorem State.setV_ports (s : State) (x : Reg) (v : Byte) : (s.setV x v).ports = s.ports := rfl

/-! ### setI -/

@[simp] theorem State.setI_V (s : State) (n : Nat) : (s.setI n).V = s.V := rfl
@[simp] theorem State.setI_I (s : State) (n : Nat) : (s.setI n).I = trunc16 (trunc12 n) := rfl
@[simp] theorem State.setI_pc (s : State) (n : Nat) : (s.setI n).pc = s.pc := rfl
@[simp] theorem State.setI_sp (s : State) (n : Nat) : (s.setI n).sp = s.sp := rfl
@[simp] theorem State.setI_S (s : State) (n : Nat) : (s.setI n).S = s.S := rfl
@[simp] theorem State.setI_DT (s : State) (n : Nat) : (s.setI n).DT = s.DT := rfl
@[simp] theorem State.setI_ST (s : State) (n : Nat) : (s.setI n).ST = s.ST := rfl
@[simp] theorem State.setI_mem (s : State) (n : Nat) : (s.setI n).mem = s.mem := rfl
@[simp] theorem State.setI_run (s : State) (n : Nat) : (s.setI n).run = s.run := rfl
@[simp] theorem State.setI_cpuMode (s : State) (n : Nat) : (s.setI n).cpuMode = s.cpuMode := rfl
@[simp] theorem State.setI_beep (s : State) (n : Nat) : (s.setI n).beep = s.beep := rfl
@[simp] theorem State.setI_fault (s : State) (n : Nat) : (s.setI n).fault = s.fault := rfl
@[simp] theorem State.setI_rom (s : State) (n : Nat) : (s.setI n).rom = s.rom := rfl
@[simp] theorem State.setI_cfg (s : State) (n : Nat) : (s.setI n).cfg = s.cfg := rfl
@[simp] theorem State.setI_display (s : State) (n : Nat) : (s.setI n).display = s.display := rfl
@[simp] theorem State.setI_schedule (s : State) (n : Nat) : (s.setI n).schedule = s.schedule := rfl
@[simp] theorem State.setI_keys (s : State) (n : Nat) : (s.setI n).keys = s.keys := rfl
@[simp] theorem State.setI_rands (s : State) (n : Nat) : (s.setI n).rands = s.rands := rfl
@[simp] theorem State.setI_orders (s : State) (n : Nat) : (s.setI n).orders = s.orders := rfl
@[simp] theorem State.setI_ports (s : State) (n : Nat) : (s.setI n).ports = s.ports := rfl
@[simp] theorem State.setI_getV (s : State) (n : Nat) (r : Reg) : (s.setI n).getV r = s.getV r := rfl

/-! ### setPc -/

@[simp] theorem State.setPc_V (s : State) (n : Nat) : (s.setPc n).V = s.V := rfl
@[simp] theorem State.setPc_I (s : State) (n : Nat) : (s.setPc n).I = s.I := rfl
@[simp] theorem State.setPc_pc (s : State) (n : Nat) : (s.setPc n).pc = trunc16 n := rfl
@[simp] theorem State.setPc_sp (s : State) (n : Nat) : (s.setPc n).sp = s.sp := rfl
@[simp] theorem State.setPc_S (s : State) (n : Nat) : (s.setPc n).S = s.S := rfl
@[simp] theorem State.setPc_DT (s : State) (n : Nat) : (s.setPc n).DT = s.DT := rfl
@[simp] theorem State.setPc_ST (s : State) (n : Nat) : (s.setPc n).ST = s.ST := rfl
@[simp] theorem State.setPc_mem (s : State) (n : Nat) : (s.setPc n).mem = s.mem := rfl
@[simp] theorem State.setPc_run (s : State) (n : Nat) : (s.setPc n).run = s.run := rfl
@[simp] theorem State.setPc_cpuMode (s : State) (n : Nat) : (s.setPc n).cpuMode = s.cpuMode := rfl
@[simp] theorem State.setPc_beep (s : State) (n : Nat) : (s.setPc n).beep = s.beep := rfl
@[simp] theorem State.setPc_fault (s : State) (n : Nat) : (s.setPc n).fault = s.fault := rfl
@[simp] theorem State.setPc_rom (s : State) (n : Nat) : (s.setPc n).rom = s.rom := rfl
@[simp] theorem State.setPc_cfg (s : State) (n : Nat) : (s.setPc n).cfg = s.cfg := rfl
@[simp] theorem State.setPc_display (s : State) (n : Nat) : (s.setPc n).display = s.display := rfl
@[simp] theorem State.setPc_schedule (s : State) (n : Nat) : (s.setPc n).schedule = s.schedule := rfl
@[simp] theorem State.setPc_keys (s : State) (n : Nat) : (s.setPc n).keys = s.keys := rfl
@[simp] theorem State.setPc_rands (s : State) (n : Nat) : (s.setPc n).rands = s.rands := rfl
@[simp] theorem State.setPc_orders (s : State) (n : Nat) : (s.setPc n).orders = s.orders := rfl
@[simp] theorem State.setPc_ports (s : State) (n : Nat) : (s.setPc n).ports = s.ports := rfl
@[simp] theorem State.setPc_getV (s : State) (n : Nat) (r : Reg) : (s.setPc n).getV r = s.getV r := rfl

/-! ### setDT -/

@[simp] theorem State.setDT_V (s : State) (v : Byte) : (s.setDT v).V = s.V := rfl
@[simp] theorem State.setDT_I (s : State) (v : Byte) : (s.setDT v).I = s.I := rfl
@[simp] theorem State.setDT_pc (s : State) (v : Byte) : (s.setDT v).pc = s.pc := rfl
@[simp] theorem State.setDT_sp (s : State) (v : Byte) : (s.setDT v).sp = s.sp := rfl
@[simp] theorem State.setDT_S (s : State) (v : Byte) : (s.setDT v).S = s.S := rfl
@[simp] theorem State.setDT_DT (s : State) (v : Byte) : (s.setDT v).DT = v := rfl
@[simp] theorem State.setDT_ST (s : State) (v : Byte) : (s.setDT v).ST = s.ST := rfl
@[simp] theorem State.setDT_mem (s : State) (v : Byte) : (s.setDT v).mem = s.mem := rfl
@[simp] theorem State.setDT_run (s : State) (v : Byte) : (s.setDT v).run = s.run := rfl
@[simp] theorem State.setDT_cpuMode (s : State) (v : Byte) : (s.setDT v).cpuMode = s.cpuMode := rfl
@[simp] theorem State.setDT_beep (s : State) (v : Byte) : (s.setDT v).beep = s.beep := rfl
@[simp] theorem State.setDT_fault (s : State) (v : Byte) : (s.setDT v).fault = s.fault := rfl
@[simp] theorem State.setDT_rom (s : State) (v : Byte) : (s.setDT v).rom = s.rom := rfl
@[simp] theorem State.setDT_cfg (s : State) (v : Byte) : (s.setDT v).cfg = s.cfg := rfl
@[simp] theorem State.setDT_display (s : State) (v : Byte) : (s.setDT v).display = s.display := rfl
@[simp] theorem State.setDT_schedule (s : State) (v : Byte) : (s.setDT v).schedule = s.schedule := rfl
@[simp] theorem State.setDT_keys (s : State) (v : Byte) : (s.setDT v).keys = s.keys := rfl
@[simp] theorem State.setDT_rands (s : State) (v : Byte) : (s.setDT v).rands = s.rands := rfl
@[simp] theorem State.setDT_orders (s : State) (v : Byte) : (s.setDT v).orders = s.orders := rfl
@[simp] theorem State.setDT_ports (s : State) (v : Byte) : (s.setDT v).ports = s.ports := rfl
@[simp] theorem State.setDT_getV (s : State) (v : Byte) (r : Reg) : (s.setDT v).getV r = s.getV r := rfl

/-! ### setST -/

@[simp] theorem State.setST_V (s : State) (v : Byte) : (s.setST v).V = s.V := rfl
@[simp] theorem State.setST_I (s : State) (v : Byte) : (s.setST v).I = s.I := rfl
@[simp] theorem State.setST_pc (s : State) (v : Byte) : (s.setST v).pc = s.pc := rfl
@[simp] theorem State.setST_sp (s : State) (v : Byte) : (s.setST v).sp = s.sp := rfl
@[simp] theorem State.setST_S (s : State) (v : Byte) : (s.setST v).S = s.S := rfl
@[simp] theorem State.setST_DT (s : State) (v : Byte) : (s.setST v).DT = s.DT := rfl
@[simp] theorem State.setST_ST (s : State) (v : Byte) : (s.setST v).ST = v := rfl
@[simp] theorem State.setST_mem (s : State) (v : Byte) : (s.setST v).mem = s.mem := rfl
@[simp] theorem State.setST_run (s : State) (v : Byte) : (s.setST v).run = s.run := rfl
@[simp] theorem State.setST_cpuMode (s : State) (v : Byte) : (s.setST v).cpuMode = s.cpuMode := rfl
@[simp] theorem State.setST_beep (s : State) (v : Byte) : (s.setST v).beep = s.beep := rfl
@[simp] theorem State.setST_fault (s : State) (v : Byte) : (s.setST v).fault = s.fault := rfl
@[simp] theorem State.setST_rom (s : State) (v : Byte) : (s.setST v).rom = s.rom := rfl
@[simp] theorem State.setST_cfg (s : State) (v : Byte) : (s.setST v).cfg = s.cfg := rfl
@[simp] theorem State.setST_display (s : State) (v : Byte) : (s.setST v).display = s.display := rfl
@[simp] theorem State.setST_schedule (s : State) (v : Byte) : (s.setST v).schedule = s.schedule := rfl
@[simp] theorem State.setST_keys (s : State) (v : Byte) : (s.setST v).keys = s.keys := rfl
@[simp] theorem State.setST_rands (s : State) (v : Byte) : (s.setST v).rands = s.rands := rfl
@[simp] theorem State.setST_orders (s : State) (v : Byte) : (s.setST v).orders = s.orders := rfl
@[simp] theorem State.setST_ports (s : State) (v : Byte) : (s.setST v).ports = s.ports := rfl
@[simp] theorem State.setST_getV (s : State) (v : Byte) (r : Reg) : (s.setST v).getV r = s.getV r := rfl

/-! ### setMem -/

@[simp] theorem State.setMem_V (s : State) (m : Memory) : (s.setMem m).V = s.V := rfl
@[simp] theorem State.setMem_I (s : State) (m : Memory) : (s.setMem m).I = s.I := rfl
@[simp] theorem State.setMem_pc (s : State) (m : Memory) : (s.setMem m).pc = s.pc := rfl
@[simp] theorem State.setMem_sp (s : State) (m : Memory) : (s.setMem m).sp = s.sp := rfl
@[simp] theorem State.setMem_S (s : State) (m : Memory) : (s.setMem m).S = s.S := rfl
@[simp] theorem State.setMem_DT (s : State) (m : Memory) : (s.setMem m).DT = s.DT := rfl
@[simp] theorem State.setMem_ST (s : State) (m : Memory) : (s.setMem m).ST = s.ST := rfl
@[simp] theorem State.setMem_mem (s : State) (m : Memory) : (s.setMem m).mem = m := rfl
@[simp] theorem State.setMem_run (s : State) (m : Memory) : (s.setMem m).run = s.run := rfl
@[simp] theorem State.setMem_cpuMode (s : State) (m : Memory) : (s.setMem m).cpuMode = s.cpuMode := rfl
@[simp] theorem State.setMem_beep (s : State) (m : Memory) : (s.setMem m).beep = s.beep := rfl
@[simp] theorem State.setMem_fault (s : State) (m : Memory) : (s.setMem m).fault = s.fault := rfl
@[simp] theorem State.setMem_rom (s : State) (m : Memory) : (s.setMem m).rom = s.rom := rfl
@[simp] theorem State.setMem_cfg (s : State) (m : Memory) : (s.setMem m).cfg = s.cfg := rfl
@[simp] theorem State.setMem_display (s : State) (m : Memory) : (s.setMem m).display = s.display := rfl
@[simp] theorem State.setMem_schedule (s : State) (m : Memory) : (s.setMem m).schedule = s.schedule := rfl
@[simp] theorem State.setMem_keys (s : State) (m : Memory) : (s.setMem m).keys = s.keys := rfl
@[simp] theorem State.setMem_rands (s : State) (m : Memory) : (s.setMem m).rands = s.rands := rfl
@[simp] theorem State.setMem_orders (s : State) (m : Memory) : (s.setMem m).orders = s.orders := rfl
@[simp] theorem State.setMem_ports (s : State) (m : Memory) : (s.setMem m).ports = s.ports := rfl
@[simp] theorem State.setMem_getV (s : State) (m : Memory) (r : Reg) : (s.setMem m).getV r = s.getV r := rfl

/-! ### setSp -/

@[simp] theorem State.setSp_V (s : State) (k : Fin 17) : (s.setSp k).V = s.V := rfl
@[simp] theorem State.setSp_I (s : State) (k : Fin 17) : (s.setSp k).I = s.I := rfl
@[simp] theorem State.setSp_pc (s : State) (k : Fin 17) : (s.setSp k).pc = s.pc := rfl
@[simp] theorem State.setSp_sp (s : State) (k : Fin 17) : (s.setSp k).sp = k := rfl
@[simp] theorem State.setSp_S (s : State) (k : Fin 17) : (s.setSp k).S = s.S := rfl
@[simp] theorem State.setSp_DT (s : State) (k : Fin 17) : (s.setSp k).DT = s.DT := rfl
@[simp] theorem State.setSp_ST (s : State) (k : Fin 17) : (s.setSp k).ST = s.ST := rfl
@[simp] theorem State.setSp_mem (s : State) (k : Fin 17) : (s.setSp k).mem = s.mem := rfl
@[simp] theorem State.setSp_run (s : State) (k : Fin 17) : (s.setSp k).run = s.run := rfl
@[simp] theorem State.setSp_cpuMode (s : State) (k : Fin 17) : (s.setSp k).cpuMode = s.cpuMode := rfl
@[simp] theorem State.setSp_beep (s : State) (k : Fin 17) : (s.setSp k).beep = s.beep := rfl
@[simp] theorem State.setSp_fault (s : State) (k : Fin 17) : (s.setSp k).fault = s.fault := rfl
@[simp] theorem State.setSp_rom (s : State) (k : Fin 17) : (s.setSp k).rom = s.rom := rfl
@[simp] theorem State.setSp_cfg (s : State) (k : Fin 17) : (s.setSp k).cfg = s.cfg := rfl
@[simp] theorem State.setSp_display (s : State) (k : Fin 17) : (s.setSp k).display = s.display := rfl
@[simp] theorem State.setSp_schedule (s : State) (k : Fin 17) : (s.setSp k).schedule = s.schedule := rfl
@[simp] theorem State.setSp_keys (s : State) (k : Fin 17) : (s.setSp k).keys = s.keys := rfl
@[simp] theorem State.setSp_rands (s : State) (k : Fin 17) : (s.setSp k).rands = s.rands := rfl
@[simp] theorem State.setSp_orders (s : State) (k : Fin 17) : (s.setSp k).orders = s.orders := rfl
@[simp] theorem State.setSp_ports (s : State) (k : Fin 17) : (s.setSp k).ports = s.ports := rfl
@[simp] theorem State.setSp_getV (s : State) (k : Fin 17) (r : Reg) : (s.setSp k).getV r = s.getV r := rfl

/-! ### setS -/

@[simp] theorem State.setS_V (s : State) (v : Vector Word 16) : (s.setS v).V = s.V := rfl
@[simp] theorem State.setS_I (s : State) (v : Vector Word 16) : (s.setS v).I = s.I := rfl
@[simp] theorem State.setS_pc (s : State) (v : Vector Word 16) : (s.setS v).pc = s.pc := rfl
@[simp] theorem State.setS_sp (s : State) (v : Vector Word 16) : (s.setS v).sp = s.sp := rfl
@[simp] theorem State.setS_S (s : State) (v : Vector Word 16) : (s.setS v).S = v := rfl
@[simp] theorem State.setS_DT (s : State) (v : Vector Word 16) : (s.setS v).DT = s.DT := rfl
@[simp] theorem State.setS_ST (s : State) (v : Vector Word 16) : (s.setS v).ST = s.ST := rfl
@[simp] theorem State.setS_mem (s : State) (v : Vector Word 16) : (s.setS v).mem = s.mem := rfl
@[simp] theorem State.setS_run (s : State) (v : Vector Word 16) : (s.setS v).run = s.run := rfl
@[simp] theorem State.setS_cpuMode (s : State) (v : Vector Word 16) : (s.setS v).cpuMode = s.cpuMode := rfl
@[simp] theorem State.setS_beep (s : State) (v : Vector Word 16) : (s.setS v).beep = s.beep := rfl
@[simp] theorem State.setS_fault (s : State) (v : Vector Word 16) : (s.setS v).fault = s.fault := rfl
@[simp] theorem State.setS_rom (s : State) (v : Vector Word 16) : (s.setS v).rom = s.rom := rfl
@[simp] theorem State.setS_cfg (s : State) (v : Vector Word 16) : (s.setS v).cfg = s.cfg := rfl
@[simp] theorem State.setS_display (s : State) (v : Vector Word 16) : (s.setS v).display = s.display := rfl
@[simp] theorem State.setS_schedule (s : State) (v : Vector Word 16) : (s.setS v).schedule = s.schedule := rfl
@[simp] theorem State.setS_keys (s : State) (v : Vector Word 16) : (s.setS v).keys = s.keys := rfl
@[simp] theorem State.setS_rands (s : State) (v : Vector Word 16) : (s.setS v).rands = s.rands := rfl
@[simp] theorem State.setS_orders (s : State) (v : Vector Word 16) : (s.setS v).orders = s.orders := rfl
@[simp] theorem State.setS_ports (s : State) (v : Vector Word 16) : (s.setS v).ports = s.ports := rfl
@[simp] theorem State.setS_getV (s : State) (v : Vector Word 16) (r : Reg) : (s.setS v).getV r = s.getV r := rfl

/-! ### setRun -/

@[simp] theorem State.setRun_V (s : State) (q : RunState) : (s.setRun q).V = s.V := rfl
@[simp] theorem State.setRun_I (s : State) (q : RunState) : (s.setRun q).I = s.I := rfl
@[simp] theorem State.setRun_pc (s : State) (q : RunState) : (s.setRun q).pc = s.pc := rfl
@[simp] theorem State.setRun_sp (s : State) (q : RunState) : (s.setRun q).sp = s.sp := rfl
@[simp] theorem State.setRun_S (s : State) (q : RunState) : (s.setRun q).S = s.S := rfl
@[simp] theorem State.setRun_DT (s : State) (q : RunState) : (s.setRun q).DT = s.DT := rfl
@[simp] theorem State.setRun_ST (s : State) (q : RunState) : (s.setRun q).ST = s.ST := rfl
@[simp] theorem State.setRun_mem (s : State) (q : RunState) : (s.setRun q).mem = s.mem := rfl
@[simp] theorem State.setRun_run (s : State) (q : RunState) : (s.setRun q).run = q := rfl
@[simp] theorem State.setRun_cpuMode (s : State) (q : RunState) : (s.setRun q).cpuMode = s.cpuMode := rfl
@[simp] theorem State.setRun_beep (s : State) (q : RunState) : (s.setRun q).beep = s.beep := rfl
@[simp] theorem State.setRun_fault (s : State) (q : RunState) : (s.setRun q).fault = s.fault := rfl
@[simp] theorem State.setRun_rom (s : State) (q : RunState) : (s.setRun q).rom = s.rom := rfl
@[simp] theorem State.setRun_cfg (s : State) (q : RunState) : (s.setRun q).cfg = s.cfg := rfl
@[simp] theorem State.setRun_display (s : State) (q : RunState) : (s.setRun q).display = s.display := rfl
@[simp] theorem State.setRun_schedule (s : State) (q : RunState) : (s.setRun q).schedule = s.schedule := rfl
@[simp] theorem State.setRun_keys (s : State) (q : RunState) : (s.setRun q).keys = s.keys := rfl
@[simp] theorem State.setRun_rands (s : State) (q : RunState) : (s.setRun q).rands = s.rands := rfl
@[simp] theorem State.setRun_orders (s : State) (q : RunState) : (s.setRun q).orders = s.orders := rfl
@[simp] theorem State.setRun_ports (s : State) (q : RunState) : (s.setRun q).ports = s.ports := rfl
@[simp] theorem State.setRun_getV (s : State) (q : RunState) (r : Reg) : (s.setRun q).getV r = s.getV r := rfl

/-! ### setCpuMode -/

@[simp] theorem State.setCpuMode_V (s : State) (m : CpuMode) : (s.setCpuMode m).V = s.V := rfl
@[simp] theorem State.setCpuMode_I (s : State) (m : CpuMode) : (s.setCpuMode m).I = s.I := rfl
@[simp] theorem State.setCpuMode_pc (s : State) (m : CpuMode) : (s.setCpuMode m).pc = s.pc := rfl
@[simp] theorem State.setCpuMode_sp (s : State) (m : CpuMode) : (s.setCpuMode m).sp = s.sp := rfl
@[simp] theorem State.setCpuMode_S (s : State) (m : CpuMode) : (s.setCpuMode m).S = s.S := rfl
@[simp] theorem State.setCpuMode_DT (s : State) (m : CpuMode) : (s.setCpuMode m).DT = s.DT := rfl
@[simp] theorem State.setCpuMode_ST (s : State) (m : CpuMode) : (s.setCpuMode m).ST = s.ST := rfl
@[simp] theorem State.setCpuMode_mem (s : State) (m : CpuMode) : (s.setCpuMode m).mem = s.mem := rfl
@[simp] theorem State.setCpuMode_run (s : State) (m : CpuMode) : (s.setCpuMode m).run = s.run := rfl
@[simp] theorem State.setCpuMode_cpuMode (s : State) (m : CpuMode) : (s.setCpuMode m).cpuMode = m := rfl
@[simp] theorem State.setCpuMode_beep (s : State) (m : CpuMode) : (s.setCpuMode m).beep = s.beep := rfl
@[simp] theorem State.setCpuMode_fault (s : State) (m : CpuMode) : (s.setCpuMode m).fault = s.fault := rfl
@[simp] theorem State.setCpuMode_rom (s : State) (m : CpuMode) : (s.setCpuMode m).rom = s.rom := rfl
@[simp] theorem State.setCpuMode_cfg (s : State) (m : CpuMode) : (s.setCpuMode m).cfg = s.cfg := rfl
@[simp] theorem State.setCpuMode_display (s : State) (m : CpuMode) : (s.setCpuMode m).display = s.display := rfl
@[simp] theorem State.setCpuMode_schedule (s : State) (m : CpuMode) : (s.setCpuMode m).schedule = s.schedule := rfl
@[simp] theorem State.setCpuMode_keys (s : State) (m : CpuMode) : (s.setCpuMode m).keys = s.keys := rfl
@[simp] theorem State.setCpuMode_rands (s : State) (m : CpuMode) : (s.setCpuMode m).rands = s.rands := rfl
@[simp] theorem State.setCpuMode_orders (s : State) (m : CpuMode) : (s.setCpuMode m).orders = s.orders := rfl
@[simp] theorem State.setCpuMode_ports (s : State) (m : CpuMode) : (s.setCpuMode m).ports = s.ports := rfl
@[simp] theorem State.setCpuMode_getV (s : State) (m : CpuMode) (r : Reg) : (s.setCpuMode m).getV r = s.getV r := rfl

/-! ### setBeep -/

@[simp] theorem State.setBeep_V (s : State) (b : Bool) : (s.setBeep b).V = s.V := rfl
@[simp] theorem State.setBeep_I (s : State) (b : Bool) : (s.setBeep b).I = s.I := rfl
@[simp] theorem State.setBeep_pc (s : State) (b : Bool) : (s.setBeep b).pc = s.pc := rfl
@[simp] theorem State.setBeep_sp (s : State) (b : Bool) : (s.setBeep b).sp = s.sp := rfl
@[simp] theorem State.setBeep_S (s : State) (b : Bool) : (s.setBeep b).S = s.S := rfl
@[simp] theorem State.setBeep_DT (s : State) (b : Bool) : (s.setBeep b).DT = s.DT := rfl
@[simp] theorem State.setBeep_ST (s : State) (b : Bool) : (s.setBeep b).ST = s.ST := rfl
@[simp] theorem State.setBeep_mem (s : State) (b : Bool) : (s.setBeep b).mem = s.mem := rfl
@[simp] theorem State.setBeep_run (s : State) (b : Bool) : (s.setBeep b).run = s.run := rfl
@[simp] theorem State.setBeep_cpuMode (s : State) (b : Bool) : (s.setBeep b).cpuMode = s.cpuMode := rfl
@[simp] theorem State.setBeep_beep (s : State) (b : Bool) : (s.setBeep b).beep = b := rfl
@[simp] theorem State.setBeep_fault (s : State) (b : Bool) : (s.setBeep b).fault = s.fault := rfl
@[simp] theorem State.setBeep_rom (s : State) (b : Bool) : (s.setBeep b).rom = s.rom := rfl
@[simp] theorem State.setBeep_cfg (s : State) (b : Bool) : (s.setBeep b).cfg = s.cfg := rfl
@[simp] theorem State.setBeep_display (s : State) (b : Bool) : (s.setBeep b).display = s.display := rfl
@[simp] theorem State.setBeep_schedule (s : State) (b : Bool) : (s.setBeep b).schedule = s.schedule := rfl
@[simp] theorem State.setBeep_keys (s : State) (b : Bool) : (s.setBeep b).keys = s.keys := rfl
@[simp] theorem State.setBeep_rands (s : State) (b : Bool) : (s.setBeep b).rands = s.rands := rfl
@[simp] theorem State.setBeep_orders (s : State) (b : Bool) : (s.setBeep b).orders = s.orders := rfl
@[simp] theorem State.setBeep_ports (s : State) (b : Bool) : (s.setBeep b).ports = s.ports := rfl
@[simp] theorem State.setBeep_getV (s : State) (b : Bool) (r : Reg) : (s.setBeep b).getV r = s.getV r := rfl

/-! ### setFault -/

@[simp] theorem State.setFault_V (s : State) (f : FaultRecord) : (s.setFault f).V = s.V := rfl
@[simp] theorem State.setFault_I (s : State) (f : FaultRecord) : (s.setFault f).I = s.I := rfl
@[simp] theorem State.setFault_pc (s : State) (f : FaultRecord) : (s.setFault f).pc = s.pc := rfl
@[simp] theorem State.setFault_sp (s : State) (f : FaultRecord) : (s.setFault f).sp = s.sp := rfl
@[simp] theorem State.setFault_S (s : State) (f : FaultRecord) : (s.setFault f).S = s.S := rfl
@[simp] theorem State.setFault_DT (s : State) (f : FaultRecord) : (s.setFault f).DT = s.DT := rfl
@[simp] theorem State.setFault_ST (s : State) (f : FaultRecord) : (s.setFault f).ST = s.ST := rfl
@[simp] theorem State.setFault_mem (s : State) (f : FaultRecord) : (s.setFault f).mem = s.mem := rfl
@[simp] theorem State.setFault_run (s : State) (f : FaultRecord) : (s.setFault f).run = s.run := rfl
@[simp] theorem State.setFault_cpuMode (s : State) (f : FaultRecord) : (s.setFault f).cpuMode = s.cpuMode := rfl
@[simp] theorem State.setFault_beep (s : State) (f : FaultRecord) : (s.setFault f).beep = s.beep := rfl
@[simp] theorem State.setFault_fault (s : State) (f : FaultRecord) : (s.setFault f).fault = f := rfl
@[simp] theorem State.setFault_rom (s : State) (f : FaultRecord) : (s.setFault f).rom = s.rom := rfl
@[simp] theorem State.setFault_cfg (s : State) (f : FaultRecord) : (s.setFault f).cfg = s.cfg := rfl
@[simp] theorem State.setFault_display (s : State) (f : FaultRecord) : (s.setFault f).display = s.display := rfl
@[simp] theorem State.setFault_schedule (s : State) (f : FaultRecord) : (s.setFault f).schedule = s.schedule := rfl
@[simp] theorem State.setFault_keys (s : State) (f : FaultRecord) : (s.setFault f).keys = s.keys := rfl
@[simp] theorem State.setFault_rands (s : State) (f : FaultRecord) : (s.setFault f).rands = s.rands := rfl
@[simp] theorem State.setFault_orders (s : State) (f : FaultRecord) : (s.setFault f).orders = s.orders := rfl
@[simp] theorem State.setFault_ports (s : State) (f : FaultRecord) : (s.setFault f).ports = s.ports := rfl
@[simp] theorem State.setFault_getV (s : State) (f : FaultRecord) (r : Reg) : (s.setFault f).getV r = s.getV r := rfl

/-! ### setRom -/

@[simp] theorem State.setRom_V (s : State) (q : Option (List Byte)) : (s.setRom q).V = s.V := rfl
@[simp] theorem State.setRom_I (s : State) (q : Option (List Byte)) : (s.setRom q).I = s.I := rfl
@[simp] theorem State.setRom_pc (s : State) (q : Option (List Byte)) : (s.setRom q).pc = s.pc := rfl
@[simp] theorem State.setRom_sp (s : State) (q : Option (List Byte)) : (s.setRom q).sp = s.sp := rfl
@[simp] theorem State.setRom_S (s : State) (q : Option (List Byte)) : (s.setRom q).S = s.S := rfl
@[simp] theorem State.setRom_DT (s : State) (q : Option (List Byte)) : (s.setRom q).DT = s.DT := rfl
@[simp] theorem State.setRom_ST (s : State) (q : Option (List Byte)) : (s.setRom q).ST = s.ST := rfl
@[simp] theorem State.setRom_mem (s : State) (q : Option (List Byte)) : (s.setRom q).mem = s.mem := rfl
@[simp] theorem State.setRom_run (s : State) (q : Option (List Byte)) : (s.setRom q).run = s.run := rfl
@[simp] theorem State.setRom_cpuMode (s : State) (q : Option (List Byte)) : (s.setRom q).cpuMode = s.cpuMode := rfl
@[simp] theorem State.setRom_beep (s : State) (q : Option (List Byte)) : (s.setRom q).beep = s.beep := rfl
@[simp] theorem State.setRom_fault (s : State) (q : Option (List Byte)) : (s.setRom q).fault = s.fault := rfl
@[simp] theorem State.setRom_rom (s : State) (q : Option (List Byte)) : (s.setRom q).rom = q := rfl
@[simp] theorem State.setRom_cfg (s : State) (q : Option (List Byte)) : (s.setRom q).cfg = s.cfg := rfl
@[simp] theorem State.setRom_display (s : State) (q : Option (List Byte)) : (s.setRom q).display = s.display := rfl
@[simp] theorem State.setRom_schedule (s : State) (q : Option (List Byte)) : (s.setRom q).schedule = s.schedule := rfl
@[simp] theorem State.setRom_keys (s : State) (q : Option (List Byte)) : (s.setRom q).keys = s.keys := rfl
@[simp] theorem State.setRom_rands (s : State) (q : Option (List Byte)) : (s.setRom q).rands = s.rands := rfl
@[simp] theorem State.setRom_orders (s : State) (q : Option (List Byte)) : (s.setRom q).orders = s.orders := rfl
@[simp] theorem State.setRom_ports (s : State) (q : Option (List Byte)) : (s.setRom q).ports = s.ports := rfl
@[simp] theorem State.setRom_getV (s : State) (q : Option (List Byte)) (r : Reg) : (s.setRom q).getV r = s.getV r := rfl

/-! ### setCfg -/

@[simp] theorem State.setCfg_V (s : State) (c : Config) : (s.setCfg c).V = s.V := rfl
@[simp] theorem State.setCfg_I (s : State) (c : Config) : (s.setCfg c).I = s.I := rfl
@[simp] theorem State.setCfg_pc (s : State) (c : Config) : (s.setCfg c).pc = s.pc := rfl
@[simp] theorem State.setCfg_sp (s : State) (c : Config) : (s.setCfg c).sp = s.sp := rfl
@[simp] theorem State.setCfg_S (s : State) (c : Config) : (s.setCfg c).S = s.S := rfl
@[simp] theorem State.setCfg_DT (s : State) (c : Config) : (s.setCfg c).DT = s.DT := rfl
@[simp] theorem State.setCfg_ST (s : State) (c : Config) : (s.setCfg c).ST = s.ST := rfl
@[simp] theorem State.setCfg_mem (s : State) (c : Config) : (s.setCfg c).mem = s.mem := rfl
@[simp] theorem State.setCfg_run (s : State) (c : Config) : (s.setCfg c).run = s.run := rfl
@[simp] theorem State.setCfg_cpuMode (s : State) (c : Config) : (s.setCfg c).cpuMode = s.cpuMode := rfl
@[simp] theorem State.setCfg_beep (s : State) (c : Config) : (s.setCfg c).beep = s.beep := rfl
@[simp] theorem State.setCfg_fault (s : State) (c : Config) : (s.setCfg c).fault = s.fault := rfl
@[simp] theorem State.setCfg_rom (s : State) (c : Config) : (s.setCfg c).rom = s.rom := rfl
@[simp] theorem State.setCfg_cfg (s : State) (c : Config) : (s.setCfg c).cfg = c := rfl
@[simp] theorem State.setCfg_display (s : State) (c : Config) : (s.setCfg c).display = s.display := rfl
@[simp] theorem State.setCfg_schedule (s : State) (c : Config) : (s.setCfg c).schedule = s.schedule := rfl
@[simp] theorem State.setCfg_keys (s : State) (c : Config) : (s.setCfg c).keys = s.keys := rfl
@[simp] theorem State.setCfg_rands (s : State) (c : Config) : (s.setCfg c).rands = s.rands := rfl
@[simp] theorem State.setCfg_orders (s : State) (c : Config) : (s.setCfg c).orders = s.orders := rfl
@[simp] theorem State.setCfg_ports (s : State) (c : Config) : (s.setCfg c).ports = s.ports := rfl
@[simp] theorem State.setCfg_getV (s : State) (c : Config) (r : Reg) : (s.setCfg c).getV r = s.getV r := rfl

/-! ### setDisplay -/

@[simp] theorem State.setDisplay_V (s : State) (fb : FrameBuffer) : (s.setDisplay fb).V = s.V := rfl
@[simp] theorem State.setDisplay_I (s : State) (fb : FrameBuffer) : (s.setDisplay fb).I = s.I := rfl
@[simp] theorem State.setDisplay_pc (s : State) (fb : FrameBuffer) : (s.setDisplay fb).pc = s.pc := rfl
@[simp] theorem State.setDisplay_sp (s : State) (fb : FrameBuffer) : (s.setDisplay fb).sp = s.sp := rfl
@[simp] theorem State.setDisplay_S (s : State) (fb : FrameBuffer) : (s.setDisplay fb).S = s.S := rfl
@[simp] theorem State.setDisplay_DT (s : State) (fb : FrameBuffer) : (s.setDisplay fb).DT = s.DT := rfl
@[simp] theorem State.setDisplay_ST (s : State) (fb : FrameBuffer) : (s.setDisplay fb).ST = s.ST := rfl
@[simp] theorem State.setDisplay_mem (s : State) (fb : FrameBuffer) : (s.setDisplay fb).mem = s.mem := rfl
@[simp] theorem State.setDisplay_run (s : State) (fb : FrameBuffer) : (s.setDisplay fb).run = s.run := rfl
@[simp] theorem State.setDisplay_cpuMode (s : State) (fb : FrameBuffer) : (s.setDisplay fb).cpuMode = s.cpuMode := rfl
@[simp] theorem State.setDisplay_beep (s : State) (fb : FrameBuffer) : (s.setDisplay fb).beep = s.beep := rfl
@[simp] theorem State.setDisplay_fault (s : State) (fb : FrameBuffer) : (s.setDisplay fb).fault = s.fault := rfl
@[simp] theorem State.setDisplay_rom (s : State) (fb : FrameBuffer) : (s.setDisplay fb).rom = s.rom := rfl
@[simp] theorem State.setDisplay_cfg (s : State) (fb : FrameBuffer) : (s.setDisplay fb).cfg = s.cfg := rfl
@[simp] theorem State.setDisplay_display (s : State) (fb : FrameBuffer) : (s.setDisplay fb).display = fb := rfl
@[simp] theorem State.setDisplay_schedule (s : State) (fb : FrameBuffer) : (s.setDisplay fb).schedule = s.schedule := rfl
@[simp] theorem State.setDisplay_keys (s : State) (fb : FrameBuffer) : (s.setDisplay fb).keys = s.keys := rfl
@[simp] theorem State.setDisplay_rands (s : State) (fb : FrameBuffer) : (s.setDisplay fb).rands = s.rands := rfl
@[simp] theorem State.setDisplay_orders (s : State) (fb : FrameBuffer) : (s.setDisplay fb).orders = s.orders := rfl
@[simp] theorem State.setDisplay_ports (s : State) (fb : FrameBuffer) : (s.setDisplay fb).ports = s.ports := rfl
@[simp] theorem State.setDisplay_getV (s : State) (fb : FrameBuffer) (r : Reg) : (s.setDisplay fb).getV r = s.getV r := rfl

/-! ### setSchedule -/

@[simp] theorem State.setSchedule_V (s : State) (f : Feed Event) : (s.setSchedule f).V = s.V := rfl
@[simp] theorem State.setSchedule_I (s : State) (f : Feed Event) : (s.setSchedule f).I = s.I := rfl
@[simp] theorem State.setSchedule_pc (s : State) (f : Feed Event) : (s.setSchedule f).pc = s.pc := rfl
@[simp] theorem State.setSchedule_sp (s : State) (f : Feed Event) : (s.setSchedule f).sp = s.sp := rfl
@[simp] theorem State.setSchedule_S (s : State) (f : Feed Event) : (s.setSchedule f).S = s.S := rfl
@[simp] theorem State.setSchedule_DT (s : State) (f : Feed Event) : (s.setSchedule f).DT = s.DT := rfl
@[simp] theorem State.setSchedule_ST (s : State) (f : Feed Event) : (s.setSchedule f).ST = s.ST := rfl
@[simp] theorem State.setSchedule_mem (s : State) (f : Feed Event) : (s.setSchedule f).mem = s.mem := rfl
@[simp] theorem State.setSchedule_run (s : State) (f : Feed Event) : (s.setSchedule f).run = s.run := rfl
@[simp] theorem State.setSchedule_cpuMode (s : State) (f : Feed Event) : (s.setSchedule f).cpuMode = s.cpuMode := rfl
@[simp] theorem State.setSchedule_beep (s : State) (f : Feed Event) : (s.setSchedule f).beep = s.beep := rfl
@[simp] theorem State.setSchedule_fault (s : State) (f : Feed Event) : (s.setSchedule f).fault = s.fault := rfl
@[simp] theorem State.setSchedule_rom (s : State) (f : Feed Event) : (s.setSchedule f).rom = s.rom := rfl
@[simp] theorem State.setSchedule_cfg (s : State) (f : Feed Event) : (s.setSchedule f).cfg = s.cfg := rfl
@[simp] theorem State.setSchedule_display (s : State) (f : Feed Event) : (s.setSchedule f).display = s.display := rfl
@[simp] theorem State.setSchedule_schedule (s : State) (f : Feed Event) : (s.setSchedule f).schedule = f := rfl
@[simp] theorem State.setSchedule_keys (s : State) (f : Feed Event) : (s.setSchedule f).keys = s.keys := rfl
@[simp] theorem State.setSchedule_rands (s : State) (f : Feed Event) : (s.setSchedule f).rands = s.rands := rfl
@[simp] theorem State.setSchedule_orders (s : State) (f : Feed Event) : (s.setSchedule f).orders = s.orders := rfl
@[simp] theorem State.setSchedule_ports (s : State) (f : Feed Event) : (s.setSchedule f).ports = s.ports := rfl
@[simp] theorem State.setSchedule_getV (s : State) (f : Feed Event) (r : Reg) : (s.setSchedule f).getV r = s.getV r := rfl

/-! ### setKeys -/

@[simp] theorem State.setKeys_V (s : State) (f : Feed (Option Key)) : (s.setKeys f).V = s.V := rfl
@[simp] theorem State.setKeys_I (s : State) (f : Feed (Option Key)) : (s.setKeys f).I = s.I := rfl
@[simp] theorem State.setKeys_pc (s : State) (f : Feed (Option Key)) : (s.setKeys f).pc = s.pc := rfl
@[simp] theorem State.setKeys_sp (s : State) (f : Feed (Option Key)) : (s.setKeys f).sp = s.sp := rfl
@[simp] theorem State.setKeys_S (s : State) (f : Feed (Option Key)) : (s.setKeys f).S = s.S := rfl
@[simp] theorem State.setKeys_DT (s : State) (f : Feed (Option Key)) : (s.setKeys f).DT = s.DT := rfl
@[simp] theorem State.setKeys_ST (s : State) (f : Feed (Option Key)) : (s.setKeys f).ST = s.ST := rfl
@[simp] theorem State.setKeys_mem (s : State) (f : Feed (Option Key)) : (s.setKeys f).mem = s.mem := rfl
@[simp] theorem State.setKeys_run (s : State) (f : Feed (Option Key)) : (s.setKeys f).run = s.run := rfl
@[simp] theorem State.setKeys_cpuMode (s : State) (f : Feed (Option Key)) : (s.setKeys f).cpuMode = s.cpuMode := rfl
@[simp] theorem State.setKeys_beep (s : State) (f : Feed (Option Key)) : (s.setKeys f).beep = s.beep := rfl
@[simp] theorem State.setKeys_fault (s : State) (f : Feed (Option Key)) : (s.setKeys f).fault = s.fault := rfl
@[simp] theorem State.setKeys_rom (s : State) (f : Feed (Option Key)) : (s.setKeys f).rom = s.rom := rfl
@[simp] theorem State.setKeys_cfg (s : State) (f : Feed (Option Key)) : (s.setKeys f).cfg = s.cfg := rfl
@[simp] theorem State.setKeys_display (s : State) (f : Feed (Option Key)) : (s.setKeys f).display = s.display := rfl
@[simp] theorem State.setKeys_schedule (s : State) (f : Feed (Option Key)) : (s.setKeys f).schedule = s.schedule := rfl
@[simp] theorem State.setKeys_keys (s : State) (f : Feed (Option Key)) : (s.setKeys f).keys = f := rfl
@[simp] theorem State.setKeys_rands (s : State) (f : Feed (Option Key)) : (s.setKeys f).rands = s.rands := rfl
@[simp] theorem State.setKeys_orders (s : State) (f : Feed (Option Key)) : (s.setKeys f).orders = s.orders := rfl
@[simp] theorem State.setKeys_ports (s : State) (f : Feed (Option Key)) : (s.setKeys f).ports = s.ports := rfl
@[simp] theorem State.setKeys_getV (s : State) (f : Feed (Option Key)) (r : Reg) : (s.setKeys f).getV r = s.getV r := rfl

/-! ### setRands -/

@[simp] theorem State.setRands_V (s : State) (f : Feed Byte) : (s.setRands f).V = s.V := rfl
@[simp] theorem State.setRands_I (s : State) (f : Feed Byte) : (s.setRands f).I = s.I := rfl
@[simp] theorem State.setRands_pc (s : State) (f : Feed Byte) : (s.setRands f).pc = s.pc := rfl
@[simp] theorem State.setRands_sp (s : State) (f : Feed Byte) : (s.setRands f).sp = s.sp := rfl
@[simp] theorem State.setRands_S (s : State) (f : Feed Byte) : (s.setRands f).S = s.S := rfl
@[simp] theorem State.setRands_DT (s : State) (f : Feed Byte) : (s.setRands f).DT = s.DT := rfl
@[simp] theorem State.setRands_ST (s : State) (f : Feed Byte) : (s.setRands f).ST = s.ST := rfl
@[simp] theorem State.setRands_mem (s : State) (f : Feed Byte) : (s.setRands f).mem = s.mem := rfl
@[simp] theorem State.setRands_run (s : State) (f : Feed Byte) : (s.setRands f).run = s.run := rfl
@[simp] theorem State.setRands_cpuMode (s : State) (f : Feed Byte) : (s.setRands f).cpuMode = s.cpuMode := rfl
@[simp] theorem State.setRands_beep (s : State) (f : Feed Byte) : (s.setRands f).beep = s.beep := rfl
@[simp] theorem State.setRands_fault (s : State) (f : Feed Byte) : (s.setRands f).fault = s.fault := rfl
@[simp] theorem State.setRands_rom (s : State) (f : Feed Byte) : (s.setRands f).rom = s.rom := rfl
@[simp] theorem State.setRands_cfg (s : State) (f : Feed Byte) : (s.setRands f).cfg = s.cfg := rfl
@[simp] theorem State.setRands_display (s : State) (f : Feed Byte) : (s.setRands f).display = s.display := rfl
@[simp] theorem State.setRands_schedule (s : State) (f : Feed Byte) : (s.setRands f).schedule = s.schedule := rfl
@[simp] theorem State.setRands_keys (s : State) (f : Feed Byte) : (s.setRands f).keys = s.keys := rfl
@[simp] theorem State.setRands_rands (s : State) (f : Feed Byte) : (s.setRands f).rands = f := rfl
@[simp] theorem State.setRands_orders (s : State) (f : Feed Byte) : (s.setRands f).orders = s.orders := rfl
@[simp] theorem State.setRands_ports (s : State) (f : Feed Byte) : (s.setRands f).ports = s.ports := rfl
@[simp] theorem State.setRands_getV (s : State) (f : Feed Byte) (r : Reg) : (s.setRands f).getV r = s.getV r := rfl

/-! ### setOrders -/

@[simp] theorem State.setOrders_V (s : State) (f : Feed Bool) : (s.setOrders f).V = s.V := rfl
@[simp] theorem State.setOrders_I (s : State) (f : Feed Bool) : (s.setOrders f).I = s.I := rfl
@[simp] theorem State.setOrders_pc (s : State) (f : Feed Bool) : (s.setOrders f).pc = s.pc := rfl
@[simp] theorem State.setOrders_sp (s : State) (f : Feed Bool) : (s.setOrders f).sp = s.sp := rfl
@[simp] theorem State.setOrders_S (s : State) (f : Feed Bool) : (s.setOrders f).S = s.S := rfl
@[simp] theorem State.setOrders_DT (s : State) (f : Feed Bool) : (s.setOrders f).DT = s.DT := rfl
@[simp] theorem State.setOrders_ST (s : State) (f : Feed Bool) : (s.setOrders f).ST = s.ST := rfl
@[simp] theorem State.setOrders_mem (s : State) (f : Feed Bool) : (s.setOrders f).mem = s.mem := rfl
@[simp] theorem State.setOrders_run (s : State) (f : Feed Bool) : (s.setOrders f).run = s.run := rfl
@[simp] theorem State.setOrders_cpuMode (s : State) (f : Feed Bool) : (s.setOrders f).cpuMode = s.cpuMode := rfl
@[simp] theorem State.setOrders_beep (s : State) (f : Feed Bool) : (s.setOrders f).beep = s.beep := rfl
@[simp] theorem State.setOrders_fault (s : State) (f : Feed Bool) : (s.setOrders f).fault = s.fault := rfl
@[simp] theorem State.setOrders_rom (s : State) (f : Feed Bool) : (s.setOrders f).rom = s.rom := rfl
@[simp] theorem State.setOrders_cfg (s : State) (f : Feed Bool) : (s.setOrders f).cfg = s.cfg := rfl
@[simp] theorem State.setOrders_display (s : State) (f : Feed Bool) : (s.setOrders f).display = s.display := rfl
@[simp] theorem State.setOrders_schedule (s : State) (f : Feed Bool) : (s.setOrders f).schedule = s.schedule := rfl
@[simp] theorem State.setOrders_keys (s : State) (f : Feed Bool) : (s.setOrders f).keys = s.keys := rfl
@[simp] theorem State.setOrders_rands (s : State) (f : Feed Bool) : (s.setOrders f).rands = s.rands := rfl
@[simp] theorem State.setOrders_orders (s : State) (f : Feed Bool) : (s.setOrders f).orders = f := rfl
@[simp] theorem State.setOrders_ports (s : State) (f : Feed Bool) : (s.setOrders f).ports = s.ports := rfl
@[simp] theorem State.setOrders_getV (s : State) (f : Feed Bool) (r : Reg) : (s.setOrders f).getV r = s.getV r := rfl

/-! ### emit -/

@[simp] theorem State.emit_V (s : State) (c : PortCall) : (s.emit c).V = s.V := rfl
@[simp] theorem State.emit_I (s : State) (c : PortCall) : (s.emit c).I = s.I := rfl
@[simp] theorem State.emit_pc (s : State) (c : PortCall) : (s.emit c).pc = s.pc := rfl
@[simp] theorem State.emit_sp (s : State) (c : PortCall) : (s.emit c).sp = s.sp := rfl
@[simp] theorem State.emit_S (s : State) (c : PortCall) : (s.emit c).S = s.S := rfl
@[simp] theorem State.emit_DT (s : State) (c : PortCall) : (s.emit c).DT = s.DT := rfl
@[simp] theorem State.emit_ST (s : State) (c : PortCall) : (s.emit c).ST = s.ST := rfl
@[simp] theorem State.emit_mem (s : State) (c : PortCall) : (s.emit c).mem = s.mem := rfl
@[simp] theorem State.emit_run (s : State) (c : PortCall) : (s.emit c).run = s.run := rfl
@[simp] theorem State.emit_cpuMode (s : State) (c : PortCall) : (s.emit c).cpuMode = s.cpuMode := rfl
@[simp] theorem State.emit_beep (s : State) (c : PortCall) : (s.emit c).beep = s.beep := rfl
@[simp] theorem State.emit_fault (s : State) (c : PortCall) : (s.emit c).fault = s.fault := rfl
@[simp] theorem State.emit_rom (s : State) (c : PortCall) : (s.emit c).rom = s.rom := rfl
@[simp] theorem State.emit_cfg (s : State) (c : PortCall) : (s.emit c).cfg = s.cfg := rfl
@[simp] theorem State.emit_display (s : State) (c : PortCall) : (s.emit c).display = s.display := rfl
@[simp] theorem State.emit_schedule (s : State) (c : PortCall) : (s.emit c).schedule = s.schedule := rfl
@[simp] theorem State.emit_keys (s : State) (c : PortCall) : (s.emit c).keys = s.keys := rfl
@[simp] theorem State.emit_rands (s : State) (c : PortCall) : (s.emit c).rands = s.rands := rfl
@[simp] theorem State.emit_orders (s : State) (c : PortCall) : (s.emit c).orders = s.orders := rfl
@[simp] theorem State.emit_ports (s : State) (c : PortCall) : (s.emit c).ports = s.ports ++ [c] := rfl
@[simp] theorem State.emit_getV (s : State) (c : PortCall) (r : Reg) : (s.emit c).getV r = s.getV r := rfl

/-! ### Reading a register after writing one -/

theorem State.setV_getV (s : State) (x : Reg) (v : Byte) (r : Reg) :
    (s.setV x v).getV r = if r = x then v else s.getV r := by
  unfold State.getV State.setV
  rw [Vector.getElem_set]
  by_cases h : r = x
  · simp [h]
  · rw [if_neg h, if_neg fun hv => h (Fin.ext hv.symm)]

@[simp] theorem State.setV_getV_same (s : State) (x : Reg) (v : Byte) :
    (s.setV x v).getV x = v := by simp [State.setV_getV]

theorem State.setV_getV_ne (s : State) (v : Byte) {x r : Reg} (h : r ≠ x) :
    (s.setV x v).getV r = s.getV r := by simp [State.setV_getV, h]

/-- Registers that read alike are the same register file. -/
theorem State.V_ext {s t : State} (h : ∀ r : Reg, t.getV r = s.getV r) : t.V = s.V :=
  Vector.ext fun i hi => h ⟨i, hi⟩

end Sys2Proof.Machine
end

