-- ==== Sys2Proof/Laws/Memory.lean ====
section
/-! SUPPORT. The laws of memory: a read after a write, writes elsewhere, the canonical form. -/

namespace Sys2Proof.Machine

theorem Memory.wfFrom_cons {lo a : Nat} {b : Byte} {rest : Memory} :
    Memory.wfFrom lo ((a, b) :: rest) = true ↔
      lo ≤ a ∧ a < memSize ∧ b ≠ Memory.resetByte a ∧ Memory.wfFrom (a + 1) rest = true := by
  simp [Memory.wfFrom, and_assoc]

/-- A smaller lower bound holds too. -/
theorem Memory.wfFrom_mono {lo lo' : Nat} {m : Memory} (h : lo' ≤ lo)
    (hm : Memory.wfFrom lo m = true) : Memory.wfFrom lo' m = true := by
  cases m with
  | nil => rfl
  | cons c rest =>
    obtain ⟨a, b⟩ := c
    rw [Memory.wfFrom_cons] at hm ⊢
    exact ⟨h.trans hm.1, hm.2⟩

/-- An address below every listed one reads as its reset byte. -/
theorem Memory.read_of_lt {lo a : Nat} {m : Memory} (hm : Memory.wfFrom lo m = true)
    (h : a < lo) : m.read a = Memory.resetByte a := by
  induction m generalizing lo with
  | nil => rfl
  | cons c rest ih =>
    obtain ⟨a', b⟩ := c
    rw [Memory.wfFrom_cons] at hm
    simp only [Memory.read]
    rw [if_neg (by omega)]
    exact ih hm.2.2.2 (by omega)

/-- `insert` keeps the canonical form. -/
theorem Memory.insert_wfFrom {lo a : Nat} {m : Memory} (v : Byte)
    (hm : Memory.wfFrom lo m = true) (hlo : lo ≤ a) (ha : a < memSize) :
    Memory.wfFrom lo (m.insert a v) = true := by
  induction m generalizing lo with
  | nil =>
    simp only [Memory.insert]
    split
    · rfl
    · exact Memory.wfFrom_cons.2 ⟨hlo, ha, ‹_›, rfl⟩
  | cons c rest ih =>
    obtain ⟨a', b⟩ := c
    have hc := Memory.wfFrom_cons.1 hm
    simp only [Memory.insert]
    split
    · exact Memory.wfFrom_cons.2 ⟨hc.1, hc.2.1, hc.2.2.1, ih hc.2.2.2 (by omega)⟩
    · split
      · subst a'
        split
        · exact Memory.wfFrom_mono (by omega) hc.2.2.2
        · exact Memory.wfFrom_cons.2 ⟨hc.1, hc.2.1, ‹_›, hc.2.2.2⟩
      · split
        · exact hm
        · exact Memory.wfFrom_cons.2 ⟨hlo, ha, ‹_›,
            Memory.wfFrom_cons.2 ⟨by omega, hc.2⟩⟩

/-- Reading after `insert` into a canonical memory. -/
theorem Memory.read_insert {lo a : Nat} {m : Memory} (v : Byte)
    (hm : Memory.wfFrom lo m = true) (c : Nat) :
    (m.insert a v).read c = if c = a then v else m.read c := by
  induction m generalizing lo with
  | nil =>
    simp only [Memory.insert]
    split <;> rename_i hv
    · by_cases h : c = a
      · subst c; simp [Memory.read, hv]
      · simp [h]
    · simp only [Memory.read, eq_comm (a := a)]
  | cons cell rest ih =>
    obtain ⟨a', b⟩ := cell
    have hc := Memory.wfFrom_cons.1 hm
    simp only [Memory.insert]
    split
    · simp only [Memory.read, ih hc.2.2.2]
      split
      · rw [if_neg (by omega)]
      · rfl
    · split
      · subst a'
        split <;> rename_i hv
        · by_cases h : c = a
          · subst c
            rw [Memory.read_of_lt hc.2.2.2 (by omega), if_pos rfl, hv]
          · simp [Memory.read, h, Ne.symm h]
        · by_cases h : c = a
          · simp [Memory.read, h]
          · simp [Memory.read, h, Ne.symm h]
      · split <;> rename_i hv
        · by_cases h : c = a
          · subst c
            rw [if_pos rfl, Memory.read, if_neg (by omega),
              Memory.read_of_lt hc.2.2.2 (by omega), hv]
          · simp [h]
        · by_cases h : c = a
          · subst c; simp [Memory.read]
          · simp [Memory.read, h, Ne.symm h]

/-- One byte written keeps the canonical form. -/
theorem Memory.write_wf {m : Memory} (hm : m.wf = true) (a : Nat) (v : Byte) :
    (m.write a v).wf = true := by
  unfold Memory.write
  split
  · exact Memory.insert_wfFrom v hm (Nat.zero_le _) ‹_›
  · exact hm

/-- A read after a write to the same address gives the byte written; every other address reads as
before. -/
theorem Memory.read_write {m : Memory} (hm : m.wf = true) {a : Nat} (ha : a < memSize) (v : Byte)
    (c : Nat) : (m.write a v).read c = if c = a then v else m.read c := by
  rw [Memory.write, if_pos ha, Memory.read_insert v hm]

/-- Bytes written in order keep the canonical form. -/
theorem Memory.writeBytes_wf {m : Memory} (hm : m.wf = true) (a : Nat) (bs : List Byte) :
    (m.writeBytes a bs).wf = true := by
  induction bs generalizing m a with
  | nil => exact hm
  | cons b rest ih => exact ih (Memory.write_wf hm a b) (a + 1)

/-- What memory reads as after bytes are written at `a, a + 1, …`. -/
theorem Memory.read_writeBytes {m : Memory} (hm : m.wf = true) {a : Nat} {bs : List Byte}
    (h : a + bs.length ≤ memSize) (c : Nat) :
    (m.writeBytes a bs).read c =
      if a ≤ c ∧ c < a + bs.length then bs.getD (c - a) 0#8 else m.read c := by
  induction bs generalizing m a with
  | nil => simp [Memory.writeBytes]
  | cons b rest ih =>
    simp only [List.length_cons] at h ⊢
    rw [Memory.writeBytes, ih (Memory.write_wf hm a b) (by omega),
      Memory.read_write hm (by omega)]
    by_cases hc : c = a
    · subst c
      rw [if_neg (by omega), if_pos rfl, if_pos (by omega)]
      simp
    · by_cases hr : a + 1 ≤ c ∧ c < a + 1 + rest.length
      · rw [if_pos hr, if_pos (by omega)]
        obtain ⟨k, rfl⟩ : ∃ k, c = a + 1 + k := ⟨c - (a + 1), by omega⟩
        have h1 : a + 1 + k - (a + 1) = k := by omega
        have h2 : a + 1 + k - a = k + 1 := by omega
        rw [h1, h2, List.getD_cons_succ]
      · rw [if_neg hr, if_neg hc, if_neg (by omega)]

@[simp] theorem Memory.readBytes_length (m : Memory) (a n : Nat) :
    (m.readBytes a n).length = n := by
  induction n generalizing a with
  | zero => rfl
  | succ k ih => simp [Memory.readBytes, ih]

/-- The k-th byte read from `a` on stands at `a + k`. -/
theorem Memory.readBytes_getD (m : Memory) {a n k : Nat} (h : k < n) :
    (m.readBytes a n).getD k 0#8 = m.read (a + k) := by
  induction n generalizing a k with
  | zero => omega
  | succ n ih =>
    cases k with
    | zero => simp [Memory.readBytes]
    | succ k =>
      rw [Memory.readBytes, List.getD_cons_succ, ih (by omega)]
      congr 1; omega

/-- The canonical form is unique: memories that read alike are equal. -/
theorem Memory.ext_of_wfFrom {lo : Nat} {m n : Memory} (hm : Memory.wfFrom lo m = true)
    (hn : Memory.wfFrom lo n = true) (h : ∀ a, m.read a = n.read a) : m = n := by
  induction m generalizing lo n with
  | nil =>
    cases n with
    | nil => rfl
    | cons c rest =>
      obtain ⟨a, b⟩ := c
      have hc := Memory.wfFrom_cons.1 hn
      have := h a
      simp [Memory.read] at this
      exact absurd this.symm hc.2.2.1
  | cons c rest ih =>
    obtain ⟨a, b⟩ := c
    have hc := Memory.wfFrom_cons.1 hm
    cases n with
    | nil =>
      have := h a
      simp [Memory.read] at this
      exact absurd this hc.2.2.1
    | cons d rest' =>
      obtain ⟨a', b'⟩ := d
      have hd := Memory.wfFrom_cons.1 hn
      have haa : a = a' := by
        rcases Nat.lt_trichotomy a a' with hlt | heq | hgt
        · have := h a
          simp only [Memory.read, if_pos, if_neg (show ¬a' = a by omega)] at this
          rw [Memory.read_of_lt hd.2.2.2 (by omega)] at this
          exact absurd this hc.2.2.1
        · exact heq
        · have := h a'
          simp only [Memory.read, if_pos, if_neg (show ¬a = a' by omega)] at this
          rw [Memory.read_of_lt hc.2.2.2 (by omega)] at this
          exact absurd this.symm hd.2.2.1
      subst a'
      have hb : b = b' := by simpa [Memory.read] using h a
      subst b'
      have hr : rest = rest' := by
        refine ih hc.2.2.2 hd.2.2.2 fun x => ?_
        have := h x
        simp only [Memory.read] at this
        by_cases hx : a = x
        · subst x
          rw [Memory.read_of_lt hc.2.2.2 (by omega), Memory.read_of_lt hd.2.2.2 (by omega)]
        · simpa [hx] using this
      rw [hr]

/-- The memory after reset is canonical, whatever the font. -/
theorem Memory.afterReset_wf (font : Font) : (Memory.afterReset font).wf = true :=
  Memory.writeBytes_wf rfl _ _

/-- The memory after reset reads as the font at 0x000..0x04F and as zero elsewhere (R190). -/
theorem Memory.read_afterReset (font : Font) (a : Nat) :
    (Memory.afterReset font).read a = font.toList.getD a 0#8 := by
  have hlen : font.toList.length = 80 := by simp
  rw [Memory.afterReset, Memory.read_writeBytes rfl (by rw [hlen]; decide), hlen]
  split
  · simp [fontBase]
  · rename_i h
    have ha : 80 ≤ a := by simp only [fontBase] at h; omega
    rw [List.getD_eq_default _ _ (by rw [hlen]; exact ha)]
    exact List.getD_eq_default _ _ (show standardFont.length ≤ a from ha)

end Sys2Proof.Machine
end

