-- ==== Sys2Proof/Laws/Ops.lean ====
section
/-! SUPPORT. What each shared operation does, said once: the inputs, control transfer, the audio
latch, fault entry, the flag writes, register loads. -/

namespace Sys2Proof.Machine

/-! ## Feeds and draws -/

/-- A scripted value comes first and costs no free draw. -/
theorem Feed.take_scripted {α : Type} (free : Nat → α) (a : α) (rest : List α) (n : Nat) :
    Feed.take free ⟨a :: rest, n⟩ = (a, ⟨rest, n⟩) := rfl

/-- With nothing scripted, the n-th free value is taken. -/
theorem Feed.take_free {α : Type} (free : Nat → α) (n : Nat) :
    Feed.take free ⟨[], n⟩ = (free n, ⟨[], n + 1⟩) := rfl

/-- Taking the next event changes the schedule and nothing else. -/
theorem State.nextEvent_eq (s : State) : ∃ f, s.nextEvent.2 = s.setSchedule f :=
  ⟨_, rfl⟩

/-- A sample of the input port changes its feed and nothing else. -/
theorem State.sampleKey_eq (s : State) : ∃ f, s.sampleKey.2 = s.setKeys f :=
  ⟨_, rfl⟩

/-- A draw of the random port changes its feed and nothing else. -/
theorem State.drawRand_eq (s : State) : ∃ f, s.drawRand.2 = s.setRands f :=
  ⟨_, rfl⟩

/-- A flag-order choice changes its feed and nothing else. -/
theorem State.drawFlagLast_eq (s : State) : ∃ f, s.drawFlagLast.2 = s.setOrders f :=
  ⟨_, rfl⟩

/-! ## Control transfer -/

theorem State.advancePc_eq (s : State) : s.advancePc = s.setPc (s.pc.toNat + 2) := rfl

/-- A skip writes pc and nothing else (R96). -/
theorem State.skipIf_eq (s : State) (c : Bool) :
    s.skipIf c = s.setPc (if c then s.pc.toNat + 2 else s.pc.toNat) := by
  cases c
  · simp [State.skipIf, State.setPc, trunc16]
  · rfl

/-- Push fails exactly on the full stack (R30). -/
theorem State.push_eq_none_iff {s : State} {v : Word} : s.push v = none ↔ s.sp.val = 16 := by
  unfold State.push stackFrames
  have := s.sp.isLt
  split <;> simp <;> omega

/-- What a push that succeeds does (R30). -/
theorem State.push_spec {s t : State} {v : Word} (h : s.push v = some t) :
    ∃ hlt : s.sp.val < 16,
      t = (s.setSp ⟨s.sp.val + 1, Nat.succ_lt_succ hlt⟩).setS (s.S.set s.sp.val v hlt) := by
  unfold State.push at h
  split at h
  · exact ⟨‹_›, by simpa using h.symm⟩
  · cases h

/-- Pop fails exactly on the empty stack (R31). -/
theorem State.pop_eq_none_iff {s : State} : s.pop = none ↔ s.sp.val = 0 := by
  unfold State.pop
  split <;> simp <;> omega

/-- What a pop that succeeds does: the slot keeps its value (R31). -/
theorem State.pop_spec {s t : State} {v : Word} (h : s.pop = some (v, t)) :
    ∃ hlt : s.sp.val - 1 < 16, 0 < s.sp.val ∧ v = s.S[s.sp.val - 1] ∧
      t = s.setSp ⟨s.sp.val - 1, by omega⟩ := by
  unfold State.pop at h
  split at h
  · simp only [Option.some.injEq, Prod.mk.injEq] at h
    exact ⟨by omega, ‹_›, h.1.symm, h.2.symm⟩
  · cases h

/-! ## The audio latch -/

/-- Silencing a beep: stopBeep is called when, and only when, the beep was on (R152, R162). -/
theorem State.silence_eq (s : State) :
    s.silence =
      { s with beep := false, ports := s.ports ++ (if s.beep then [.stopBeep] else []) } := by
  unfold State.silence
  split <;> rename_i h
  · rfl
  · have hb : s.beep = false := by simpa using h
    simp only [List.append_nil]
    rw [← hb]

/-- Starting a beep: startBeep is called when, and only when, the beep was off (R162). -/
theorem State.sound_eq (s : State) :
    s.sound =
      { s with beep := true, ports := s.ports ++ (if s.beep then [] else [.startBeep]) } := by
  unfold State.sound
  split <;> rename_i h
  · simp only [List.append_nil]
    rw [← h]
  · rfl

/-! ## Fault entry -/

/-- Everything that taking a fault does (R152): six fields, no more. -/
theorem State.raise_eq (s : State) (cause : FaultCause) (addr word data : Word) :
    s.raise cause addr word data =
      { s with
        fault := ⟨cause, addr, word, data⟩, run := .faulted, cpuMode := .exec, beep := false,
        ports := s.ports ++ (if s.beep then [.stopBeep] else []) } := by
  unfold State.raise
  rw [State.silence_eq]
  rfl

/-- Fault entry as the claims say it. -/
theorem State.raise_faultedFrom (s : State) (cause : FaultCause) (addr word data : Word) :
    FaultedFrom s (s.raise cause addr word data) ⟨cause, addr, word, data⟩ := by
  rw [State.raise_eq]
  exact ⟨rfl, rfl, rfl, rfl, rfl, rfl, rfl, ⟨rfl, rfl⟩, ⟨rfl, rfl⟩, rfl, rfl, rfl, rfl,
    ⟨rfl, rfl, rfl⟩, rfl, rfl⟩

/-! ## Flag writes -/

/-- The two orders of R101, and nothing else: the choices feed moves only in mode `either`. -/
theorem State.writeRF_cases (s : State) (x : Reg) (r : Byte) (f : Bool) :
    (s.cfg.vfOrder ≠ .resultLast ∧ ∃ o, (s.cfg.vfOrder ≠ .either → o = s.orders) ∧
      s.writeRF x r f = ((s.setOrders o).setV x r).setV VF (b2i f)) ∨
    (s.cfg.vfOrder ≠ .flagLast ∧ ∃ o, (s.cfg.vfOrder ≠ .either → o = s.orders) ∧
      s.writeRF x r f = ((s.setOrders o).setV VF (b2i f)).setV x r) := by
  unfold State.writeRF
  split <;> rename_i h
  · exact .inl ⟨by simp [h], s.orders, fun _ => rfl, rfl⟩
  · exact .inr ⟨by simp [h], s.orders, fun _ => rfl, rfl⟩
  · obtain ⟨o, ho⟩ := s.drawFlagLast_eq
    rw [ho]
    split
    · exact .inl ⟨by simp [h], o, fun hn => absurd h hn, rfl⟩
    · exact .inr ⟨by simp [h], o, fun hn => absurd h hn, rfl⟩

/-- A logic result is one register write, or two with the parameter set (R105 to R107). -/
theorem State.writeLogic_eq (s : State) (x : Reg) (r : Byte) :
    s.writeLogic x r =
      if s.cfg.logicClearsVf then (s.setV x r).setV VF 0#8 else s.setV x r := rfl

/-! ## Register loads -/

theorem mem_regsUpTo {x r : Reg} : r ∈ regsUpTo x ↔ r ≤ x := by
  revert x r; decide

/-- Loading registers from memory writes V and nothing else. -/
theorem State.loadRegs_eq (rs : List Reg) (s : State) :
    ∃ V, s.loadRegs rs = { s with V := V } := by
  induction rs generalizing s with
  | nil => exact ⟨s.V, rfl⟩
  | cons r rest ih =>
    obtain ⟨V, hV⟩ := ih (s.setV r (s.mem.read (s.effAddr r.val)))
    exact ⟨V, hV⟩

/-- A listed register gets the byte at I plus its index; the others keep their value (R126). -/
theorem State.loadRegs_getV (rs : List Reg) (s : State) (r : Reg) :
    (s.loadRegs rs).getV r = if r ∈ rs then s.mem.read (s.I.toNat + r.val) else s.getV r := by
  induction rs generalizing s with
  | nil => simp [State.loadRegs]
  | cons q rest ih =>
    rw [State.loadRegs, ih]
    simp only [State.setV_mem, State.setV_I, State.setV_getV, List.mem_cons, State.effAddr]
    by_cases h : r = q
    · subst r; simp
    · simp [h]

/-- The k-th byte that `LD [I], Vx` stores is Vk (R125). -/
theorem State.valuesUpTo_getD (s : State) {x k : Reg} (h : k ≤ x) :
    (s.valuesUpTo x).getD k.val 0#8 = s.getV k := by
  have hk : ∀ x k : Reg, k ≤ x → (regsUpTo x)[k.val]? = some k := by decide
  simp [State.valuesUpTo, List.getD_eq_getElem?_getD, hk x k h]

@[simp] theorem State.valuesUpTo_length (s : State) (x : Reg) :
    (s.valuesUpTo x).length = x.val + 1 := by
  have : ∀ x : Reg, (regsUpTo x).length = x.val + 1 := by decide
  simp [State.valuesUpTo, this]

/-- What the optional increment of I does (R125, R126). -/
theorem State.bumpI_eq (s : State) (x : Reg) :
    s.bumpI x = if s.cfg.memIncrementsI then s.setI (s.I.toNat + x.val + 1) else s := rfl

/-- The range check of R48, for at least one byte. -/
theorem State.rangeOk_iff (s : State) {n : Nat} (h : 0 < n) :
    s.rangeOk n = true ↔ s.I.toNat + n ≤ memSize := by
  simp only [State.rangeOk, memSize, Bool.or_eq_true, beq_iff_eq, decide_eq_true_eq]
  omega

/-- Every write of I leaves it below 0x1000 (R25). -/
theorem State.setI_I_toNat (s : State) (n : Nat) : (s.setI n).I.toNat = n % 4096 := by
  simp only [State.setI_I, trunc16, trunc12, BitVec.toNat_ofNat]
  omega

end Sys2Proof.Machine
end

