-- ==== Sys2Proof/Laws/Display.lean ====
section
/-! SUPPORT. What one toggle and one plotted sprite bit do to a pixel. -/

namespace Sys2Proof.Machine

/-- A toggle flips its own pixel and no other (R145). -/
theorem FrameBuffer.pixel_toggle (fb : FrameBuffer) (X Y X' Y' : Nat) :
    (fb.toggle X Y).pixel X' Y' =
      if X' % 64 = X % 64 ∧ Y' % 32 = Y % 32 then !fb.pixel X' Y' else fb.pixel X' Y' := by
  have hX : X % 64 < 64 := Nat.mod_lt _ (by decide)
  have hX' : X' % 64 < 64 := Nat.mod_lt _ (by decide)
  unfold FrameBuffer.pixel FrameBuffer.toggle
  by_cases hY : Y' % 32 = Y % 32
  · simp only [hY, and_true, Vector.getElem_set_self, BitVec.getLsbD_xor,
      BitVec.getLsbD_shiftLeft, hX', decide_true, Bool.true_and, BitVec.getLsbD_one]
    by_cases hx : X' % 64 = X % 64
    · simp [hx]
    · have : ¬(¬X' % 64 < X % 64 ∧ X' % 64 - X % 64 = 0) := by omega
      rw [if_neg hx]
      by_cases hlt : X' % 64 < X % 64
      · simp [hlt]
      · have : X' % 64 - X % 64 ≠ 0 := by omega
        simp [hlt, this]
  · have : Y % 32 ≠ Y' % 32 := fun h => hY h.symm
    simp [hY, Vector.getElem_set_ne _ _ this]

/-- Frame buffers whose pixels are alike are equal. -/
theorem FrameBuffer.ext_pixel {fb fb' : FrameBuffer}
    (h : ∀ X Y : Nat, X < 64 → Y < 32 → fb.pixel X Y = fb'.pixel X Y) : fb = fb' := by
  refine Vector.ext fun Y hY => BitVec.eq_of_getLsbD_eq fun X hX => ?_
  have := h X Y hX hY
  simpa [FrameBuffer.pixel, Nat.mod_eq_of_lt hX, Nat.mod_eq_of_lt hY] using this

/-- Every pixel of the blank frame buffer is off (R146). -/
@[simp] theorem FrameBuffer.pixel_blank (X Y : Nat) : FrameBuffer.blank.pixel X Y = false := by
  simp [FrameBuffer.blank, FrameBuffer.pixel]

/-- A sprite bit flips its pixel when it is set. -/
theorem plotBit_pixel (X Y : Nat) (on : Bool) (acc : FrameBuffer × Bool) (X' Y' : Nat) :
    (plotBit X Y on acc).1.pixel X' Y' =
      if on ∧ X' % 64 = X % 64 ∧ Y' % 32 = Y % 32 then !acc.1.pixel X' Y'
      else acc.1.pixel X' Y' := by
  cases on <;> simp [plotBit, FrameBuffer.pixel_toggle]

/-- A sprite bit collides when it is set on a pixel that is on. -/
theorem plotBit_collision (X Y : Nat) (on : Bool) (acc : FrameBuffer × Bool) :
    (plotBit X Y on acc).2 = (acc.2 || (on && acc.1.pixel X Y)) := by
  cases on <;> simp [plotBit]

end Sys2Proof.Machine
end

