-- ==== Sys2Proof/Laws/Step.lean ====
section
/-! SUPPORT. What a step can do, said once. -/

namespace Sys2Proof.Machine

/-- A step takes the next event and runs it. -/
theorem step_cases {s t : State} (h : step s = .next t) :
    (s.nextEvent.1 = .cpuTick ∧ cpuTick s.nextEvent.2 = .next t) ∨
    (s.nextEvent.1 = .timerTick ∧ t = timerTick s.nextEvent.2) ∨
    (∃ c, s.nextEvent.1 = .host c ∧ t = hostCommand c s.nextEvent.2) := by
  unfold step at h
  split at h <;> rename_i he
  · exact .inl ⟨he, h⟩
  · exact .inr (.inl ⟨he, by simpa using h.symm⟩)
  · exact .inr (.inr ⟨_, he, by simpa using h.symm⟩)

/-- A step at a CPU tick. -/
theorem step_of_cpuTick {s : State} (h : s.nextEvent.1 = .cpuTick) :
    step s = cpuTick s.nextEvent.2 := by simp only [step, h]

/-- A step at a timer tick. -/
theorem step_of_timerTick {s : State} (h : s.nextEvent.1 = .timerTick) :
    step s = .next (timerTick s.nextEvent.2) := by simp only [step, h]

/-- A step at a host command. -/
theorem step_of_host {s : State} {c : HostCommand} (h : s.nextEvent.1 = .host c) :
    step s = .next (hostCommand c s.nextEvent.2) := by simp only [step, h]

/-- A CPU tick does nothing unless Running; then it polls or fetches. -/
theorem cpuTick_cases {s t : State} (h : cpuTick s = .next t) :
    (s.run ≠ .running ∧ t = s) ∨
    (s.run = .running ∧ ∃ x, s.cpuMode = .waitKey x ∧ t = pollKey x s) ∨
    (s.run = .running ∧ s.cpuMode = .exec ∧ fetchExecute s = .next t) := by
  unfold cpuTick at h
  split at h <;> rename_i hr
  · exact .inl ⟨by simp [hr], by simpa using h.symm⟩
  · exact .inl ⟨by simp [hr], by simpa using h.symm⟩
  · split at h <;> rename_i hm
    · exact .inr (.inr ⟨hr, hm, h⟩)
    · exact .inr (.inl ⟨hr, _, hm, by simpa using h.symm⟩)

/-- A fetch faults, or its word faults, does nothing, or decodes to the instruction executed. -/
theorem fetchExecute_cases {s t : State} (h : fetchExecute s = .next t) :
    (∃ cause data, (cause = .misalignedPc ∨ cause = .memoryOutOfRange) ∧
      t = s.raise cause s.pc 0#16 data) ∨
    (s.fetchInRange = true ∧ ∃ cause, (cause = .aliasedOpcode ∨ cause = .unknownOpcode) ∧
      t = s.advancePc.raise cause s.pc s.fetchWord 0#16) ∨
    (s.fetchInRange = true ∧ t = s.advancePc) ∨
    (s.fetchInRange = true ∧ ∃ i, decodeWord s.fetchWord = .ok i ∧ exec i s.advancePc = .next t) := by
  unfold fetchExecute at h
  split at h
  · exact .inl ⟨_, _, .inl rfl, by simpa using h.symm⟩
  · split at h
    · rename_i hr
      unfold decodeExecute at h
      split at h
      · exact .inr (.inl ⟨hr, _, .inl rfl, by simpa using h.symm⟩)
      · split at h <;> rename_i hd
        · exact .inr (.inr (.inr ⟨hr, _, hd, h⟩))
        · simp only [Host.Outcome.next.injEq] at h
          subst t
          unfold unknownWord
          split
          · exact .inr (.inl ⟨hr, _, .inr rfl, rfl⟩)
          · exact .inr (.inr (.inl ⟨hr, rfl⟩))
    · exact .inl ⟨_, _, .inr rfl, by simpa using h.symm⟩

end Sys2Proof.Machine
end

