-- ==== Sys2Proof/Laws/Exec.lean ====
section
/-! SUPPORT. What executing one instruction can do, said once: it faults with everything else kept,
or it keeps the lifecycle state, the canonical form of memory and the 12-bit mask of I. -/

namespace Sys2Proof.Machine

/-- What an instruction that does not fault keeps, whichever it is. -/
structure Completes (s t : State) : Prop where
  run : t.run = s.run
  beep : t.beep = s.beep
  fault : t.fault = s.fault
  rom : t.rom = s.rom
  cfg : t.cfg = s.cfg
  schedule : t.schedule = s.schedule
  cpuMode : t.cpuMode = s.cpuMode ∨ ∃ x, t.cpuMode = .waitKey x
  mem : s.mem.wf = true → t.mem.wf = true
  index : s.I.toNat ≤ 0xFFF → t.I.toNat ≤ 0xFFF

theorem Completes.refl (s : State) : Completes s s :=
  ⟨rfl, rfl, rfl, rfl, rfl, rfl, .inl rfl, id, id⟩

theorem Completes.trans {s t u : State} (h : Completes s t) (h' : Completes t u) : Completes s u :=
  ⟨h'.run.trans h.run, h'.beep.trans h.beep, h'.fault.trans h.fault, h'.rom.trans h.rom,
    h'.cfg.trans h.cfg, h'.schedule.trans h.schedule,
    h'.cpuMode.elim (fun e => h.cpuMode.imp e.trans fun ⟨x, hx⟩ => ⟨x, e.trans hx⟩) .inr,
    h'.mem ∘ h.mem, h'.index ∘ h.index⟩

theorem completes_setV (s : State) (x : Reg) (v : Byte) : Completes s (s.setV x v) :=
  ⟨rfl, rfl, rfl, rfl, rfl, rfl, .inl rfl, id, id⟩

theorem completes_setPc (s : State) (n : Nat) : Completes s (s.setPc n) :=
  ⟨rfl, rfl, rfl, rfl, rfl, rfl, .inl rfl, id, id⟩

theorem completes_setI (s : State) (n : Nat) : Completes s (s.setI n) :=
  ⟨rfl, rfl, rfl, rfl, rfl, rfl, .inl rfl, id, fun _ => by rw [State.setI_I_toNat]; omega⟩

theorem completes_writeBytes (s : State) (a : Nat) (bs : List Byte) :
    Completes s (s.setMem (s.mem.writeBytes a bs)) :=
  ⟨rfl, rfl, rfl, rfl, rfl, rfl, .inl rfl, fun h => Memory.writeBytes_wf h a bs, id⟩

theorem completes_skipIf (s : State) (c : Bool) : Completes s (s.skipIf c) := by
  rw [State.skipIf_eq]
  exact completes_setPc s _

theorem completes_sampleKey (s : State) : Completes s s.sampleKey.2 :=
  ⟨rfl, rfl, rfl, rfl, rfl, rfl, .inl rfl, id, id⟩

theorem completes_bumpI (s : State) (x : Reg) : Completes s (s.bumpI x) := by
  rw [State.bumpI_eq]
  split
  · exact completes_setI s _
  · exact .refl s

theorem completes_loadRegs (s : State) (rs : List Reg) : Completes s (s.loadRegs rs) := by
  obtain ⟨V, h⟩ := s.loadRegs_eq rs
  rw [h]
  exact ⟨rfl, rfl, rfl, rfl, rfl, rfl, .inl rfl, id, id⟩

theorem completes_writeLogic (s : State) (x : Reg) (r : Byte) : Completes s (s.writeLogic x r) := by
  rw [State.writeLogic_eq]
  split
  · exact (completes_setV s x r).trans (completes_setV _ _ _)
  · exact completes_setV s x r

theorem completes_writeRF (s : State) (x : Reg) (r : Byte) (f : Bool) :
    Completes s (s.writeRF x r f) := by
  rcases s.writeRF_cases x r f with ⟨-, o, -, h⟩ | ⟨-, o, -, h⟩ <;>
  · rw [h]
    exact ⟨rfl, rfl, rfl, rfl, rfl, rfl, .inl rfl, id, id⟩

/-- Every instruction answers a next state: the Faulted state of one of its own faults (R151), or a
state it completes in. -/
theorem exec_cases (i : Instr) (s : State) : ∃ t, exec i s = .next t ∧
    ((∃ cause data, cause ≠ .none ∧ t = s.raiseIn cause i data) ∨ Completes s t) := by
  cases i with
  | sys nnn => exact ⟨_, rfl, .inr (.refl s)⟩
  | cls => exact ⟨_, rfl, .inr ⟨rfl, rfl, rfl, rfl, rfl, rfl, .inl rfl, id, id⟩⟩
  | ret =>
    cases hp : s.pop with
    | none =>
      have e : exec .ret s = .next (s.raiseIn .stackUnderflow .ret 0#16) := by
        simp only [exec, execRet, hp]
      exact ⟨_, e, .inl ⟨_, _, by decide, rfl⟩⟩
    | some p =>
      have e : exec .ret s = .next (p.2.setPc p.1.toNat) := by simp only [exec, execRet, hp]
      obtain ⟨v, u⟩ := p
      obtain ⟨_, _, _, rfl⟩ := State.pop_spec hp
      exact ⟨_, e, .inr ⟨rfl, rfl, rfl, rfl, rfl, rfl, .inl rfl, id, id⟩⟩
  | call nnn =>
    cases hp : s.push s.pc with
    | none =>
      have e : exec (.call nnn) s = .next (s.raiseIn .stackOverflow (.call nnn) 0#16) := by
        simp only [exec, execCall, hp]
      exact ⟨_, e, .inl ⟨_, _, by decide, rfl⟩⟩
    | some u =>
      have e : exec (.call nnn) s = .next (u.setPc (target nnn)) := by
        simp only [exec, execCall, hp]
      obtain ⟨_, rfl⟩ := State.push_spec hp
      exact ⟨_, e, .inr ⟨rfl, rfl, rfl, rfl, rfl, rfl, .inl rfl, id, id⟩⟩
  | jp nnn => exact ⟨_, rfl, .inr (completes_setPc s _)⟩
  | jpV0 nnn => exact ⟨_, rfl, .inr (completes_setPc s _)⟩
  | seImm x kk => exact ⟨_, rfl, .inr (completes_skipIf s _)⟩
  | sneImm x kk => exact ⟨_, rfl, .inr (completes_skipIf s _)⟩
  | seReg x y => exact ⟨_, rfl, .inr (completes_skipIf s _)⟩
  | sneReg x y => exact ⟨_, rfl, .inr (completes_skipIf s _)⟩
  | skp x => exact ⟨_, rfl, .inr ((completes_sampleKey s).trans (completes_skipIf _ _))⟩
  | sknp x => exact ⟨_, rfl, .inr ((completes_sampleKey s).trans (completes_skipIf _ _))⟩
  | ldImm x kk => exact ⟨_, rfl, .inr (completes_setV s x _)⟩
  | ldReg x y => exact ⟨_, rfl, .inr (completes_setV s x _)⟩
  | addImm x kk =>
    by_cases h : s.cfg.addImmSetsVf = true
    · exact ⟨_, if_pos h, .inr (completes_writeRF s x _ _)⟩
    · exact ⟨_, if_neg h, .inr (completes_setV s x _)⟩
  | orReg x y => exact ⟨_, rfl, .inr (completes_writeLogic s x _)⟩
  | andReg x y => exact ⟨_, rfl, .inr (completes_writeLogic s x _)⟩
  | xorReg x y => exact ⟨_, rfl, .inr (completes_writeLogic s x _)⟩
  | addReg x y => exact ⟨_, rfl, .inr (completes_writeRF s x _ _)⟩
  | subReg x y => exact ⟨_, rfl, .inr (completes_writeRF s x _ _)⟩
  | subnReg x y => exact ⟨_, rfl, .inr (completes_writeRF s x _ _)⟩
  | shr x y => exact ⟨_, rfl, .inr ((completes_setV s _ _).trans (completes_setV _ _ _))⟩
  | shl x y => exact ⟨_, rfl, .inr ((completes_setV s _ _).trans (completes_setV _ _ _))⟩
  | rnd x kk => exact ⟨_, rfl, .inr ⟨rfl, rfl, rfl, rfl, rfl, rfl, .inl rfl, id, id⟩⟩
  | ldI nnn => exact ⟨_, rfl, .inr (completes_setI s _)⟩
  | addI x => exact ⟨_, rfl, .inr (completes_setI s _)⟩
  | ldF x => exact ⟨_, rfl, .inr (completes_setI s _)⟩
  | ldB x =>
    by_cases h : s.rangeOk 3 = true
    · exact ⟨_, if_pos h, .inr (completes_writeBytes s _ _)⟩
    · exact ⟨_, if_neg h, .inl ⟨_, _, by decide, rfl⟩⟩
  | ldMemStore x =>
    by_cases h : s.rangeOk (x.val + 1) = true
    · exact ⟨_, if_pos h, .inr ((completes_writeBytes s _ _).trans (completes_bumpI _ x))⟩
    · exact ⟨_, if_neg h, .inl ⟨_, _, by decide, rfl⟩⟩
  | ldMemLoad x =>
    by_cases h : s.rangeOk (x.val + 1) = true
    · exact ⟨_, if_pos h, .inr ((completes_loadRegs s _).trans (completes_bumpI _ x))⟩
    · exact ⟨_, if_neg h, .inl ⟨_, _, by decide, rfl⟩⟩
  | drw x y n =>
    by_cases h : s.rangeOk n.val = true
    · exact ⟨_, if_pos h, .inr ⟨rfl, rfl, rfl, rfl, rfl, rfl, .inl rfl, id, id⟩⟩
    · exact ⟨_, if_neg h, .inl ⟨_, _, by decide, rfl⟩⟩
  | ldVxDt x => exact ⟨_, rfl, .inr (completes_setV s x _)⟩
  | ldDtVx x => exact ⟨_, rfl, .inr ⟨rfl, rfl, rfl, rfl, rfl, rfl, .inl rfl, id, id⟩⟩
  | ldStVx x => exact ⟨_, rfl, .inr ⟨rfl, rfl, rfl, rfl, rfl, rfl, .inl rfl, id, id⟩⟩
  | ldVxK x =>
    cases hk : s.sampleKey.1 with
    | some c =>
      have e : exec (.ldVxK x) s = .next (s.sampleKey.2.setV x (keyByte c)) := by
        simp only [exec, execLdVxK, State.takeKeyOrWait, hk]
      exact ⟨_, e, .inr ((completes_sampleKey s).trans (completes_setV _ x _))⟩
    | none =>
      have e : exec (.ldVxK x) s = .next (s.sampleKey.2.setCpuMode (.waitKey x)) := by
        simp only [exec, execLdVxK, State.takeKeyOrWait, hk]
      exact ⟨_, e,
        .inr ⟨rfl, rfl, rfl, rfl, rfl, rfl, .inr ⟨x, rfl⟩, id, id⟩⟩

end Sys2Proof.Machine
end

