-- ==== Sys2Proof/Laws/PerInstr.lean ====
section
/-! SUPPORT. A statement about every instruction, made per instruction: its word holds the fixed
bits of its row in the opcode map (30_encoding.md R65). -/

namespace Sys2Proof.Laws

/-- N3 stands in the upper four bits, whatever the 12 operand bits hold. -/
theorem high_nibble_mask {n3 r : Nat} (h : n3 < 16) (hr : r < 4096) :
    BitVec.ofNat 16 (n3 * 4096 + r) &&& 0xF000#16 = BitVec.ofNat 16 (n3 * 4096) := by
  have hm : BitVec.ofNat 16 (n3 * 4096 + r) = BitVec.ofNat 4 n3 ++ BitVec.ofNat 12 r := by
    apply BitVec.eq_of_toNat_eq
    rw [BitVec.toNat_append, Nat.shiftLeft_eq, BitVec.toNat_ofNat, BitVec.toNat_ofNat,
      BitVec.toNat_ofNat, Nat.mod_eq_of_lt (by omega), Nat.mod_eq_of_lt (by omega),
      Nat.mod_eq_of_lt (by omega), ← Nat.shiftLeft_eq,
      ← Nat.shiftLeft_add_eq_or_of_lt (by simpa using hr), Nat.shiftLeft_eq]
  have h0 : BitVec.ofNat 16 (n3 * 4096) = BitVec.ofNat 4 n3 ++ 0#12 := by
    apply BitVec.eq_of_toNat_eq
    rw [BitVec.toNat_append, Nat.shiftLeft_eq, BitVec.toNat_ofNat, BitVec.toNat_ofNat]
    simp
    omega
  rw [hm, h0, show 0xF000#16 = BitVec.allOnes 4 ++ 0#12 by decide]
  refine BitVec.eq_of_getLsbD_eq fun i hi => ?_
  rw [BitVec.getLsbD_and, BitVec.getLsbD_append, BitVec.getLsbD_append, BitVec.getLsbD_append,
    BitVec.getLsbD_allOnes]
  by_cases hlt : i < 12
  · simp [hlt]
  · simp [hlt, show i - 12 < 4 by omega]

/-- Format `addr` keeps N3 (R64). -/
theorem packAddr_mask (n3 : Nat) (h : n3 < 16) (nnn : Addr) :
    packAddr n3 nnn &&& 0xF000#16 = BitVec.ofNat 16 (n3 * 4096) :=
  high_nibble_mask h nnn.isLt

/-- Format `x_kk` keeps N3 (R64). -/
theorem packByte_mask (n3 : Nat) (h : n3 < 16) (x : Reg) (kk : Byte) :
    packByte n3 x kk &&& 0xF000#16 = BitVec.ofNat 16 (n3 * 4096) := by
  have := x.isLt
  have := kk.isLt
  rw [packByte, Nat.add_assoc]
  exact high_nibble_mask h (by omega)

end Sys2Proof.Laws

namespace Sys2Proof.Laws.EncodeMatches

/-- R65: "a word w selects a row when `(w & mask) = match`"; an instruction's own word selects its
own row. -/
def Statement (i : Instr) : Prop := encode i &&& i.row.2 = i.row.1

theorem sys (nnn : Addr) : Statement (.sys nnn) := packAddr_mask 0x0 (by decide) nnn
theorem cls : Statement .cls := by unfold Statement; decide
theorem ret : Statement .ret := by unfold Statement; decide
theorem jp (nnn : Addr) : Statement (.jp nnn) := packAddr_mask 0x1 (by decide) nnn
theorem call (nnn : Addr) : Statement (.call nnn) := packAddr_mask 0x2 (by decide) nnn
theorem seImm (x : Reg) (kk : Byte) : Statement (.seImm x kk) := packByte_mask 0x3 (by decide) x kk
theorem sneImm (x : Reg) (kk : Byte) : Statement (.sneImm x kk) := packByte_mask 0x4 (by decide) x kk
theorem seReg (x y : Reg) : Statement (.seReg x y) := by unfold Statement; revert x y; decide
theorem ldImm (x : Reg) (kk : Byte) : Statement (.ldImm x kk) := packByte_mask 0x6 (by decide) x kk
theorem addImm (x : Reg) (kk : Byte) : Statement (.addImm x kk) := packByte_mask 0x7 (by decide) x kk
theorem ldReg (x y : Reg) : Statement (.ldReg x y) := by unfold Statement; revert x y; decide
theorem orReg (x y : Reg) : Statement (.orReg x y) := by unfold Statement; revert x y; decide
theorem andReg (x y : Reg) : Statement (.andReg x y) := by unfold Statement; revert x y; decide
theorem xorReg (x y : Reg) : Statement (.xorReg x y) := by unfold Statement; revert x y; decide
theorem addReg (x y : Reg) : Statement (.addReg x y) := by unfold Statement; revert x y; decide
theorem subReg (x y : Reg) : Statement (.subReg x y) := by unfold Statement; revert x y; decide
theorem shr (x y : Reg) : Statement (.shr x y) := by unfold Statement; revert x y; decide
theorem subnReg (x y : Reg) : Statement (.subnReg x y) := by unfold Statement; revert x y; decide
theorem shl (x y : Reg) : Statement (.shl x y) := by unfold Statement; revert x y; decide
theorem sneReg (x y : Reg) : Statement (.sneReg x y) := by unfold Statement; revert x y; decide
theorem ldI (nnn : Addr) : Statement (.ldI nnn) := packAddr_mask 0xA (by decide) nnn
theorem jpV0 (nnn : Addr) : Statement (.jpV0 nnn) := packAddr_mask 0xB (by decide) nnn
theorem rnd (x : Reg) (kk : Byte) : Statement (.rnd x kk) := packByte_mask 0xC (by decide) x kk
theorem drw (x y : Reg) (n : Fin 16) : Statement (.drw x y n) := by
  have := x.isLt; have := y.isLt; have := n.isLt
  rw [Statement, encode, packNibbles, Nat.add_assoc, Nat.add_assoc]
  exact high_nibble_mask (by decide) (by omega)
theorem skp (x : Reg) : Statement (.skp x) := by unfold Statement; revert x; decide
theorem sknp (x : Reg) : Statement (.sknp x) := by unfold Statement; revert x; decide
theorem ldVxDt (x : Reg) : Statement (.ldVxDt x) := by unfold Statement; revert x; decide
theorem ldVxK (x : Reg) : Statement (.ldVxK x) := by unfold Statement; revert x; decide
theorem ldDtVx (x : Reg) : Statement (.ldDtVx x) := by unfold Statement; revert x; decide
theorem ldStVx (x : Reg) : Statement (.ldStVx x) := by unfold Statement; revert x; decide
theorem addI (x : Reg) : Statement (.addI x) := by unfold Statement; revert x; decide
theorem ldF (x : Reg) : Statement (.ldF x) := by unfold Statement; revert x; decide
theorem ldB (x : Reg) : Statement (.ldB x) := by unfold Statement; revert x; decide
theorem ldMemStore (x : Reg) : Statement (.ldMemStore x) := by unfold Statement; revert x; decide
theorem ldMemLoad (x : Reg) : Statement (.ldMemLoad x) := by unfold Statement; revert x; decide

end Sys2Proof.Laws.EncodeMatches
end

