-- ==== Sys2Proof/Tests/Slice0.lean ====
section
/-! SUPPORT. Tests: the worked examples and derived vectors of 95_test_vectors.md, each one step on
a small state, and for every statement of Certificates/Slice0/Obligations.lean with hypotheses a
witness: a concrete state and operands that meet all of them. -/

namespace Sys2Proof.Tests

open Sys2Proof Sys2Proof.Machine

/-! ## Helpers -/

/-- Running, at reset values, with a CPU tick due: the "Start" of 95_test_vectors.md. -/
def base : State :=
  { State.reset with run := .running, schedule := { scripted := [.cpuTick], drawn := 0 } }

/-- `base` with the word `w` at 0x200. -/
def atStart (w : Nat) : State := base.withFetchWord 16 w

/-- The state that a step or an instruction answers. -/
def after (r : Result) : Option State :=
  match r with
  | .next t => some t
  | .fault _ => none
  | .refused _ => none

/-- What a fetched instruction sees: pc = 0x202 for A = 0x200. -/
def running : State := { base with pc := 0x202#16 }

/-- The next event is the one given. -/
def State.due (s : State) (e : Event) : State := s.setSchedule { scripted := [e], drawn := 0 }

/-- The next sample of the input port is the one given. -/
def State.key (s : State) (k : Option Key) : State := s.setKeys { scripted := [k], drawn := 0 }

/-- The next draw of the random port is the one given. -/
def State.rand (s : State) (b : Byte) : State := s.setRands { scripted := [b], drawn := 0 }

/-- A state with two registers set. -/
def State.with2 (s : State) (x : Reg) (a : Byte) (y : Reg) (b : Byte) : State :=
  (s.setV x a).setV y b

/-- The state with a parameter changed. -/
def State.config (s : State) (f : Config → Config) : State := s.setCfg (f s.cfg)

/-- Result register and VF after a step. -/
def regs (r : Result) (x y : Reg) : Option (Byte × Byte) :=
  (after r).map fun t => (t.getV x, t.getV y)

/-- pc after a step. -/
def pcAfter (r : Result) : Option Word := (after r).map fun t => t.pc

/-- `run`, the fault record and pc after a step. -/
def faultAfter (r : Result) : Option (RunState × FaultRecord × Word) :=
  (after r).map fun t => (t.run, t.fault, t.pc)

/-- The Faulted result of a vector: its four recorded values and pc. -/
def faulted (c : FaultCause) (addr word data pc : Word) :
    Option (RunState × FaultRecord × Word) :=
  some (.faulted, ⟨c, addr, word, data⟩, pc)

/-! ## Well-formedness (R68) -/

theorem test_sys_0E0_ill_formed : (Instr.sys 0x0E0#12).wellFormed = false := by decide

theorem test_sys_0EE_ill_formed : (Instr.sys 0x0EE#12).wellFormed = false := by decide

theorem test_sys_0E1_well_formed : (Instr.sys 0x0E1#12).wellFormed = true := by decide

/-! ## Decode (R65; the words are written out from its pattern column) -/

/-- Rows 1 to 10 of R65. -/
theorem test_decode_rows_1_to_10 :
    [(0x0ABC#16, Instr.sys 0xABC#12), (0x00E0#16, .cls), (0x00EE#16, .ret),
     (0x1ABC#16, .jp 0xABC#12), (0x2ABC#16, .call 0xABC#12), (0x3A5C#16, .seImm 0xA 0x5C#8),
     (0x4A5C#16, .sneImm 0xA 0x5C#8), (0x5AB0#16, .seReg 0xA 0xB), (0x6A5C#16, .ldImm 0xA 0x5C#8),
     (0x7A5C#16, .addImm 0xA 0x5C#8)].all (fun p => decodeWord p.1 == .ok p.2) = true := by decide

/-- Rows 11 to 20 of R65. -/
theorem test_decode_rows_11_to_20 :
    [(0x8AB0#16, Instr.ldReg 0xA 0xB), (0x8AB1#16, .orReg 0xA 0xB), (0x8AB2#16, .andReg 0xA 0xB),
     (0x8AB3#16, .xorReg 0xA 0xB), (0x8AB4#16, .addReg 0xA 0xB), (0x8AB5#16, .subReg 0xA 0xB),
     (0x8AB6#16, .shr 0xA 0xB), (0x8AB7#16, .subnReg 0xA 0xB), (0x8ABE#16, .shl 0xA 0xB),
     (0x9AB0#16, .sneReg 0xA 0xB)].all (fun p => decodeWord p.1 == .ok p.2) = true := by decide

/-- Rows 21 to 30 of R65. -/
theorem test_decode_rows_21_to_30 :
    [(0xAABC#16, Instr.ldI 0xABC#12), (0xBABC#16, .jpV0 0xABC#12), (0xCA5C#16, .rnd 0xA 0x5C#8),
     (0xDABC#16, .drw 0xA 0xB 0xC), (0xEA9E#16, .skp 0xA), (0xEAA1#16, .sknp 0xA),
     (0xFA07#16, .ldVxDt 0xA), (0xFA0A#16, .ldVxK 0xA), (0xFA15#16, .ldDtVx 0xA),
     (0xFA18#16, .ldStVx 0xA)].all (fun p => decodeWord p.1 == .ok p.2) = true := by decide

/-- Rows 31 to 35 of R65. -/
theorem test_decode_rows_31_to_35 :
    [(0xFA1E#16, Instr.addI 0xA), (0xFA29#16, .ldF 0xA), (0xFA33#16, .ldB 0xA),
     (0xFA55#16, .ldMemStore 0xA), (0xFA65#16, .ldMemLoad 0xA)].all
      (fun p => decodeWord p.1 == .ok p.2) = true := by decide

/-- The decode table of 95_test_vectors.md: words that decode, and whether R73 calls them aliased. -/
theorem test_decode_table :
    [(0x00E0#16, Instr.cls, false), (0x00EE#16, .ret, false), (0x0123#16, .sys 0x123#12, false),
     (0x00E1#16, .sys 0x0E1#12, true), (0x30EE#16, .seImm 0 0xEE#8, true),
     (0xA2F0#16, .ldI 0x2F0#12, true), (0x8FF4#16, .addReg 15 15, true),
     (0x8014#16, .addReg 0 1, false), (0x6005#16, .ldImm 0 5#8, false),
     (0xF065#16, .ldMemLoad 0, false), (0x1000#16, .jp 0x000#12, false),
     (0x0F00#16, .sys 0xF00#12, false)].all
      (fun p => decodeWord p.1 == .ok p.2.1 && aliased p.1 == p.2.2) = true := by decide

/-- The Unknown words of the same table, all aliased. -/
theorem test_unknown_table :
    [0x5121#16, 0x8008#16, 0xE000#16, 0xF000#16].all
      (fun w => decodeWord w == .error (.unknownWord w) && aliased w) = true := by decide

/-- Two bytes in memory order, the high byte first, and the bytes after them (R49, R60). -/
theorem test_decode_bytes_big_endian :
    decodeBytes [0x60#8, 0x05#8, 0x61#8] = .ok (.ldImm 0 5#8, [0x61#8]) := by decide

/-- One byte is no instruction (R60). -/
theorem test_decode_bytes_too_short : decodeBytes [0x60#8] = .error .tooShort := by decide

/-- SW8's spelling of its scenario: "LD V0,5" is 0x60,0x05; operand order is destination first
(R75). -/
theorem test_assembly : (Instr.addReg 0 1).assembly = "ADD V0, V1" := by decide

/-! ## Fetch and pc (vectors F1 to F9) -/

theorem test_F1_big_endian_fetch : pcAfter (step (atStart 0x1234)) = some 0x234#16 := by decide

theorem test_F2_fetch_at_FFF :
    faultAfter (step { base with pc := 0xFFF#16 }) =
      faulted .memoryOutOfRange 0xFFF#16 0#16 0x1000#16 0xFFF#16 := by decide

theorem test_F3_fetch_at_10FE :
    faultAfter (step { base with pc := 0x10FE#16 }) =
      faulted .memoryOutOfRange 0x10FE#16 0#16 0x10FE#16 0x10FE#16 := by decide

/-- ROM 12 01 12 00: the fetch at 0x201 reads 0x0112. -/
def oddPc : State :=
  { base with pc := 0x201#16, mem := Memory.writeBytes [] 0x200 [0x12#8, 0x01#8, 0x12#8] }

theorem test_F4_odd_fetch : pcAfter (step oddPc) = some 0x203#16 := by decide

theorem test_F5_odd_pc_faults :
    faultAfter (step (State.config oddPc fun c => { c with faultOnOddPc := true })) =
      faulted .misalignedPc 0x201#16 0#16 0#16 0x201#16 := by decide

theorem test_F6_unknown_faults :
    faultAfter (step (atStart 0x5121)) =
      faulted .unknownOpcode 0x200#16 0x5121#16 0#16 0x202#16 := by decide

theorem test_F7_unknown_nop :
    after (step (State.config (atStart 0x5121) fun c => { c with unknownOpcode := .nop })) =
      some { State.config (atStart 0x5121) (fun c => { c with unknownOpcode := .nop }) with
        pc := 0x202#16, schedule := { scripted := [.cpuTick], drawn := 0 } } := by decide

theorem test_F8_alias_faults :
    faultAfter (step (State.config (atStart 0x30EE) fun c => { c with decodeMode := .aliasFault })) =
      faulted .aliasedOpcode 0x200#16 0x30EE#16 0#16 0x202#16 := by decide

theorem test_F9_exact_skips :
    pcAfter (step ((atStart 0x30EE).setV 0 0xEE#8)) = some 0x204#16 := by decide

/-! ## Control transfer (vectors T1 to T9) -/

theorem test_T1_sys : pcAfter (step (atStart 0x0000)) = some 0x202#16 := by decide

theorem test_T2_jp : pcAfter (step (atStart 0x1228)) = some 0x228#16 := by decide

theorem test_T3_call :
    (after (step (atStart 0x2300))).map (fun t => (t.sp.val, t.S[0], t.pc)) =
      some (1, 0x202#16, 0x300#16) := by decide

/-- sp = 1, S[1] = 0x206. -/
def oneFrame (s : State) : State := (s.setSp 1).setS (s.S.set 0 0x206#16)

theorem test_T4_ret :
    (after (step (oneFrame (atStart 0x00EE)))).map (fun t => (t.sp.val, t.S[0], t.pc)) =
      some (0, 0x206#16, 0x206#16) := by decide

theorem test_T5_ret_underflow :
    faultAfter (step (atStart 0x00EE)) =
      faulted .stackUnderflow 0x200#16 0x00EE#16 0#16 0x202#16 := by decide

theorem test_T6_call_overflow :
    faultAfter (step ((atStart 0x2300).setSp 16)) =
      faulted .stackOverflow 0x200#16 0x2300#16 0#16 0x202#16 := by decide

theorem test_T7_jpV0 : pcAfter (step ((atStart 0xB300).setV 0 0x04#8)) = some 0x304#16 := by decide

theorem test_T8_jpV0_unmasked :
    pcAfter (step ((atStart 0xBFFF).setV 0 0xFF#8)) = some 0x10FE#16 := by decide

/-! ## Skips (vectors S1 to S9) -/

theorem test_S1_se : pcAfter (step ((atStart 0x3142).setV 1 0x42#8)) = some 0x204#16 := by decide

theorem test_S2_sne : pcAfter (step ((atStart 0x4142).setV 1 0x42#8)) = some 0x202#16 := by decide

theorem test_S3_sne_skips :
    pcAfter (step ((atStart 0x4142).setV 1 0x41#8)) = some 0x204#16 := by decide

theorem test_S4_se_self : pcAfter (step (atStart 0x5550)) = some 0x204#16 := by decide

theorem test_S5_sne_self : pcAfter (step (atStart 0x9550)) = some 0x202#16 := by decide

theorem test_S6_skp :
    pcAfter (step (State.key ((atStart 0xE29E).setV 2 0x0C#8) (some 0xC))) = some 0x204#16 := by
  decide

theorem test_S7_sknp_no_key :
    pcAfter (step (State.key ((atStart 0xE2A1).setV 2 0x0C#8) none)) = some 0x204#16 := by decide

theorem test_S8_skp_high_code :
    pcAfter (step (State.key ((atStart 0xE29E).setV 2 0x1C#8) (some 0xC))) = some 0x202#16 := by
  decide

/-! ## ALU and flags (vectors A1 to A22) -/

theorem test_A1_add_carry :
    regs (step (State.with2 (atStart 0x8014) 0 0xFF#8 1 0x01#8)) 0 15 = some (0#8, 1#8) := by decide

theorem test_A3_add_into_vf :
    regs (step (State.with2 (atStart 0x8F14) 15 0x90#8 1 0x80#8)) 15 15 = some (1#8, 1#8) := by
  decide

theorem test_A3_result_last :
    regs (step (State.config (State.with2 (atStart 0x8F14) 15 0x90#8 1 0x80#8)
      fun c => { c with vfOrder := .resultLast })) 15 15 = some (0x10#8, 0x10#8) := by decide

theorem test_A5_sub_borrow :
    regs (step (State.with2 (atStart 0x8015) 0 0x00#8 1 0x01#8)) 0 15 = some (0xFF#8, 0#8) := by
  decide

theorem test_A7_sub_vf_self :
    regs (step ((atStart 0x8FF5).setV 15 0x07#8)) 15 15 = some (1#8, 1#8) := by decide

theorem test_A8_subn_borrow :
    regs (step (State.with2 (atStart 0x8017) 0 0x01#8 1 0x00#8)) 0 15 = some (0xFF#8, 0#8) := by
  decide

theorem test_A9_subn :
    regs (step (State.with2 (atStart 0x8017) 0 0x03#8 1 0x0A#8)) 0 15 = some (0x07#8, 1#8) := by
  decide

theorem test_A11_shr_vf : regs (step ((atStart 0x8FF6).setV 15 0x03#8)) 15 15 = some (0#8, 0#8) := by
  decide

theorem test_A14_shr_source_vy :
    regs (step (State.config (State.with2 (atStart 0x8016) 0 0x05#8 1 0x80#8)
      fun c => { c with shiftSource := .vy })) 0 15 = some (0x40#8, 0#8) := by decide

theorem test_A12_shl : regs (step ((atStart 0x800E).setV 0 0xFF#8)) 0 15 = some (0xFE#8, 1#8) := by
  decide

theorem test_A13_shl_vf :
    regs (step ((atStart 0x8FFE).setV 15 0x81#8)) 15 15 = some (0x02#8, 0x02#8) := by decide

theorem test_A15_add_imm_keeps_vf :
    regs (step (State.with2 (atStart 0x70FF) 0 0x00#8 15 0x55#8)) 0 15 = some (0xFF#8, 0x55#8) := by
  decide

theorem test_A16_add_imm_sets_vf :
    regs (step (State.config ((atStart 0x7F01).setV 15 0xFF#8)
      fun c => { c with addImmSetsVf := true })) 15 15 = some (1#8, 1#8) := by decide

/-- V0 = 0x0F, V1 = 0xF0, VF = 0x77. -/
def orOperands : State := (State.with2 (atStart 0x8011) 0 0x0F#8 1 0xF0#8).setV 15 0x77#8

theorem test_A17_or : regs (step orOperands) 0 15 = some (0xFF#8, 0x77#8) := by decide

theorem test_A17_or_clears_vf :
    regs (step (State.config orOperands fun c => { c with logicClearsVf := true })) 0 15 =
      some (0xFF#8, 0#8) := by decide

theorem test_A18_xor_self : regs (step ((atStart 0x8333).setV 3 0x5A#8)) 3 15 = some (0#8, 0#8) := by
  decide

theorem test_A19_and :
    regs (step (State.with2 (atStart 0x8012) 0 0x3C#8 1 0x0F#8)) 0 1 = some (0x0C#8, 0x0F#8) := by
  decide

theorem test_A20_ld_reg : regs (step ((atStart 0x8010).setV 1 0x33#8)) 0 1 = some (0x33#8, 0x33#8) := by
  decide

theorem test_W1_ld_imm : regs (step (atStart 0x6005)) 0 15 = some (5#8, 0#8) := by decide

theorem test_A21_rnd : regs (step (State.rand (atStart 0xC30F) 0xAB#8)) 3 15 = some (0x0B#8, 0#8) := by
  decide

/-! ## Address register and memory (vectors M1 to M10) -/

/-- I and some bytes of memory after a step. -/
def memAfter (r : Result) (a n : Nat) : Option (Word × List Byte) :=
  (after r).map fun t => (t.I, t.mem.readBytes a n)

theorem test_M1_ld_I : memAfter (step (atStart 0xA300)) 0 0 = some (0x300#16, []) := by decide

theorem test_M2_add_I_wraps :
    memAfter (step (((atStart 0xF01E).setI 0xFFF).setV 0 0x01#8)) 0 0 = some (0x000#16, []) := by decide

theorem test_M3_glyph_A :
    memAfter (step ((atStart 0xF029).setV 0 0x0A#8)) 0x032 5 =
      some (0x032#16, [0xF0#8, 0x90#8, 0xF0#8, 0x90#8, 0x90#8]) := by decide

theorem test_M4_digit_unmasked :
    memAfter (step ((atStart 0xF029).setV 0 0x10#8)) 0 0 = some (0x050#16, []) := by decide

theorem test_M5_bcd :
    memAfter (step (((atStart 0xF033).setI 0x300).setV 0 255#8)) 0x300 3 =
      some (0x300#16, [2#8, 5#8, 5#8]) := by decide

theorem test_M6_bcd_range :
    faultAfter (step (((atStart 0xF033).setI 0xFFE).setV 0 7#8)) =
      faulted .memoryOutOfRange 0x200#16 0xF033#16 0x1000#16 0x202#16 := by decide

theorem test_M7_store_to_top :
    memAfter (step (((atStart 0xFF55).setI 0xFF0).setV 15 0xEE#8)) 0xFFE 2 =
      some (0xFF0#16, [0x00#8, 0xEE#8]) := by decide

theorem test_M10_store_increments_I :
    memAfter (step (State.config (State.with2 ((atStart 0xF155).setI 0x400) 0 1#8 1 2#8)
      fun c => { c with memIncrementsI := true })) 0x400 2 = some (0x402#16, [1#8, 2#8]) := by decide

theorem test_M9_load :
    regs (step (((atStart 0xFF65).setI 0x300).setMem
      ((atStart 0xFF65).mem.write 0x30F 0x99#8))) 15 14 = some (0x99#8, 0#8) := by decide

/-! ## Timers and key wait (vectors K1 to K13) -/

/-- DT, ST, beep and the port calls after a step. -/
def timersAfter (r : Result) : Option (Byte × Byte × Bool × List PortCall) :=
  (after r).map fun t => (t.DT, t.ST, t.beep, t.ports)

theorem test_K1_set_delay :
    timersAfter (step ((atStart 0xF515).setV 5 0x3C#8)) = some (0x3C#8, 0#8, false, []) := by decide

theorem test_K2_read_delay : regs (step ((atStart 0xF307).setDT 0x3C#8)) 3 15 = some (0x3C#8, 0#8) := by
  decide

theorem test_K3_set_sound :
    timersAfter (step ((atStart 0xF118).setV 1 0x0A#8)) = some (0#8, 0x0A#8, false, []) := by decide

theorem test_K4_timer_tick :
    timersAfter (step ((State.due base .timerTick).setDT 2#8)) = some (1#8, 0#8, false, []) := by
  decide

theorem test_K6_beep_starts :
    timersAfter (step ((State.due base .timerTick).setST 1#8)) =
      some (0#8, 0#8, true, [.startBeep]) := by decide

theorem test_K7_beep_stops :
    timersAfter (step ((State.due base .timerTick).setBeep true)) =
      some (0#8, 0#8, false, [.stopBeep]) := by decide

theorem test_K9_key_held :
    (after (step (State.key (atStart 0xF40A) (some 7)))).map
      (fun t => (t.getV 4, t.pc, t.cpuMode)) = some (7#8, 0x202#16, .exec) := by decide

theorem test_K10_key_wait :
    (after (step (State.key (atStart 0xF30A) none))).map
      (fun t => (t.getV 3, t.pc, t.cpuMode)) = some (0#8, 0x202#16, .waitKey 3) := by decide

/-- After vector K10. -/
def waiting : State := running.setCpuMode (.waitKey 3)

theorem test_K11_poll_sees_key :
    (after (step (State.key waiting (some 0xB)))).map (fun t => (t.getV 3, t.pc, t.cpuMode)) =
      some (0x0B#8, 0x202#16, .exec) := by decide

/-! ## Display (vectors D1 to D6) -/

theorem test_D1_glyph_zero :
    (after (step (atStart 0xD015))).map (fun t => (t.getV 15,
      [0, 1, 2, 3, 4, 5].map fun Y => [0, 1, 2, 3, 4].map fun X => t.display.pixel X Y)) =
      some (0#8, [[true, true, true, true, false], [true, false, false, true, false],
        [true, false, false, true, false], [true, false, false, true, false],
        [true, true, true, true, false], [false, false, false, false, false]]) := by decide

theorem test_D4_range :
    faultAfter (step ((atStart 0xD005).setI 0xFFC)) =
      faulted .memoryOutOfRange 0x200#16 0xD005#16 0x1000#16 0x202#16 := by decide

theorem test_D6_cls :
    (after (step ((atStart 0x00E0).setDisplay (Vector.replicate 32 1#64)))).map
      (fun t => (t.display, t.ports)) = some (Vector.replicate 32 0#64, [.displayClear]) := by decide

/-! ## Faults, lifecycle and host (vectors H1 to H10) -/

theorem test_H2_fault_silences :
    (after (step ((atStart 0x5121).setBeep true))).map (fun t => (t.run, t.beep, t.ports)) =
      some (.faulted, false, [.stopBeep]) := by decide

theorem test_H8_reload_without_rom :
    (after (step (State.due base (.host (.reload true))))).map (fun t => (t.run, t.ports)) =
      some (.running, [.noRomLoaded]) := by decide

theorem test_H9_reset :
    (after (step (State.due ((base.setV 3 9#8).setBeep true) (.host .reset)))).map
      (fun t => (t.run, t.getV 3, t.pc, t.ports)) =
      some (.stopped, 0#8, 0x200#16, [.stopBeep, .displayClear]) := by decide

theorem test_H10_stop_ends_wait :
    (after (step (State.due waiting (.host .stop)))).map (fun t => (t.run, t.cpuMode, t.getV 3)) =
      some (.stopped, .exec, 0#8) := by decide

theorem test_load_copies_and_starts :
    (after (step (State.due State.reset (.host (.load [0x60#8, 0x05#8] true))))).map
      (fun t => (t.run, t.mem.readBytes 0x200 3, t.rom)) =
      some (.running, [0x60#8, 0x05#8, 0#8], some [0x60#8, 0x05#8]) := by decide

/-! ## Reset and the host's two functions -/

theorem test_reset_memory_canonical : State.reset.mem.wf = true := by decide

theorem test_core_is_this_machine :
    core.step = Sys2Proof.Machine.step ∧ core.reset = State.reset := ⟨rfl, rfl⟩

theorem test_decode_table_word : decodeTableWord 16 0xD125 = some (.drw 1 2 5) := by decide

theorem test_with_fetch_word_from_reset :
    regs (step (State.reset.withFetchWord 16 0x6A5C)) 0xA 15 = some (0x5C#8, 0#8) := by decide

/-! ## Witnesses: every hypothesis of every statement is met, clause by clause -/

/-- `DecodeEncodeRoundTrip`. -/
theorem witness_well_formed :
    (Instr.sys 0x0ED#12).wellFormed = true ∧ (Instr.drw 15 15 15).wellFormed = true := by decide

/-- The SYS clause of `SysAndJumps`. -/
theorem witness_sys_word : 0x0ED#12 ≠ 0x0E0#12 ∧ 0x0ED#12 ≠ 0x0EE#12 := by decide

/-- `EncodeDecodeRoundTrip`, and clause 1 of `DecodeFindsTheUniqueRow` for CLS and SYS. -/
theorem witness_word_decodes :
    decodeWord 0x00E0#16 = .ok .cls ∧ 0x00E0#16 &&& (Instr.sys 0#12).row.2 = (Instr.sys 0#12).row.1 ∧
      decodeWord 0xDFFF#16 = .ok (.drw 15 15 15) := by decide

/-- Clauses 2 and 3 of `DecodeFindsTheUniqueRow`: a word that no row matches. -/
theorem witness_no_row_matches :
    (∀ j : Instr, 0x5001#16 &&& j.row.2 ≠ j.row.1) ∧
      decodeWord 0x5001#16 = .error (.unknownWord 0x5001#16) := by
  refine ⟨fun j => ?_, by decide⟩
  cases j <;> simp only [Instr.row] <;> decide

/-- The last address a word is fetched from. -/
def topFetch : State :=
  { base with pc := 0xFFE#16, mem := Memory.writeBytes [] 0xFFE [0x8A#8, 0xB4#8] }

/-- `StepRunsTheDecodedInstruction`, at pc = 0xFFE. -/
theorem witness_step_runs :
    Fetches topFetch ∧ decodeWord (wordAtPc topFetch) = .ok (.addReg 0xA 0xB) ∧
      ¬AliasRefused topFetch (wordAtPc topFetch) :=
  ⟨⟨rfl, rfl, rfl, fun h => absurd h.1 (by decide), by decide⟩, by decide,
    fun h => absurd h.1 (by decide)⟩

/-- The first pc at which no fetch is possible. -/
def aboveTop : State := { base with pc := 0xFFF#16 }

/-- Both clauses of `FetchFaults`: an odd pc that faults, and pc = 0xFFF. -/
theorem witness_fetch_faults :
    let odd := State.config oddPc fun c => { c with faultOnOddPc := true }
    (odd.nextEvent.1 = .cpuTick ∧ odd.run = .running ∧ odd.cpuMode = .exec ∧
      odd.cfg.faultOnOddPc = true ∧ odd.pc.toNat % 2 = 1) ∧
    (aboveTop.nextEvent.1 = .cpuTick ∧ aboveTop.run = .running ∧ aboveTop.cpuMode = .exec ∧
      ¬(aboveTop.cfg.faultOnOddPc = true ∧ aboveTop.pc.toNat % 2 = 1) ∧
      0xFFF < aboveTop.pc.toNat + 1) := by decide

/-- The word 0x30EE in mode `alias_fault`. -/
def aliasState : State := State.config (atStart 0x30EE) fun c => { c with decodeMode := .aliasFault }

/-- `AliasedWordFaults`. -/
theorem witness_alias :
    Fetches aliasState ∧ AliasRefused aliasState (wordAtPc aliasState) :=
  ⟨⟨rfl, rfl, rfl, fun h => absurd h.1 (by decide), by decide⟩, by decide, by decide⟩

/-- The Unknown word 0x5121 with `UNKNOWN_OPCODE = nop`. -/
def unknownNop : State := State.config (atStart 0x5121) fun c => { c with unknownOpcode := .nop }

/-- Both clauses of `UnknownWordFaultsOrDoesNothing`. -/
theorem witness_unknown :
    (Fetches (atStart 0x5121) ∧ decodeWord (wordAtPc (atStart 0x5121)) =
        .error (.unknownWord 0x5121#16) ∧
      ¬AliasRefused (atStart 0x5121) (wordAtPc (atStart 0x5121)) ∧
      (atStart 0x5121).cfg.unknownOpcode = .fault) ∧
    (Fetches unknownNop ∧ decodeWord (wordAtPc unknownNop) = .error (.unknownWord 0x5121#16) ∧
      ¬AliasRefused unknownNop (wordAtPc unknownNop) ∧ unknownNop.cfg.unknownOpcode = .nop) :=
  ⟨⟨⟨rfl, rfl, rfl, fun h => absurd h.1 (by decide), by decide⟩, by decide,
      fun h => absurd h.1 (by decide), rfl⟩,
    ⟨⟨rfl, rfl, rfl, fun h => absurd h.1 (by decide), by decide⟩, by decide,
      fun h => absurd h.1 (by decide), rfl⟩⟩

/-- `CallPushesOrOverflows` and `CallThenRetReturns`: sp = 15, the last slot, and sp = 16. -/
theorem witness_call :
    running.pc = 0x200#16 + 2#16 ∧ (running.setSp 15).sp.val < 16 ∧
      (running.setSp 16).sp.val = 16 := by decide

/-- The inner hypotheses of `CallThenRetReturns`: the frame on top of the stack after the CALL. -/
theorem witness_call_then_ret :
    (after (exec (.call 0x300#12) (running.setSp 15))).map (fun t => (t.sp.val, t.S[15])) =
      some (16, 0x202#16) := by decide

/-- `RetPopsOrUnderflows`: one frame, sixteen frames, none. -/
theorem witness_ret :
    running.pc = 0x200#16 + 2#16 ∧ (running.setSp 1).sp.val = 0 + 1 ∧
      (running.setSp 16).sp.val = 15 + 1 ∧ running.sp.val = 0 := by decide

/-- `LiveFramesAreKept`: a CALL above one live frame. -/
theorem witness_live_frames :
    (after (exec (.call 0x300#12) (oneFrame running))).isSome = true ∧ (0 : Fin 16).val < (oneFrame
      running).sp.val ∧ Instr.call 0x300#12 ≠ .ret := by decide

/-- The conditions of `SkipsOnImmediate` and `SkipsOnRegister`. -/
theorem witness_skips :
    (running.setV 1 0x42#8).getV 1 = 0x42#8 ∧ (running.setV 1 0x41#8).getV 1 ≠ 0x42#8 ∧
      running.getV 5 = running.getV 5 ∧ (running.setV 1 1#8).getV 1 ≠ (running.setV 1 1#8).getV 2 := by
  decide

/-- The two conditions of `SkipsOnKey`: the key is reported; no sample shows it (here, no key). -/
theorem witness_skips_on_key :
    (State.key (running.setV 2 0x0C#8) (some 0xC)).sampleKey.1 = some (0xC : Key) ∧
      (0xC : Key).val = ((running.setV 2 0x0C#8).getV 2).toNat ∧
      ∀ c : Key, (State.key running none).sampleKey.1 = some c → c.val ≠ (running.getV 2).toNat := by
  decide

/-- Every parameter value that a statement of the ALU or of memory names. -/
theorem witness_parameters :
    running.cfg.addImmSetsVf = false ∧ running.cfg.vfOrder = .flagLast ∧
      running.cfg.logicClearsVf = false ∧ running.cfg.memIncrementsI = false ∧
      running.cfg.fontDigitMask = false ∧
      (State.config running fun c => { c with addImmSetsVf := true }).cfg.addImmSetsVf = true ∧
      (State.config running fun c => { c with vfOrder := .resultLast }).cfg.vfOrder = .resultLast ∧
      (State.config running fun c => { c with vfOrder := .either }).cfg.vfOrder = .either ∧
      (State.config running fun c => { c with logicClearsVf := true }).cfg.logicClearsVf = true ∧
      (State.config running fun c => { c with memIncrementsI := true }).cfg.memIncrementsI = true ∧
      (State.config running fun c => { c with fontDigitMask := true }).cfg.fontDigitMask = true := by
  decide

/-- `ShiftRight` and `ShiftLeft`: the source is Vx by default, here VF itself (x = src = VF). -/
theorem witness_shift_vx :
    (running.cfg.shiftSource = .vx → (15 : Reg) = 15) ∧
      (running.cfg.shiftSource = .vy → (15 : Reg) = 1) := by decide

/-- `ShiftRight` and `ShiftLeft` with `SHIFT_SOURCE = vy`: the source is Vy, here V1. -/
theorem witness_shift_vy :
    let s := State.config running fun c => { c with shiftSource := .vy }
    (s.cfg.shiftSource = .vx → (1 : Reg) = 0) ∧ (s.cfg.shiftSource = .vy → (1 : Reg) = 1) := by decide

/-- `BcdStore` and `BcdRoundTrip`: I = 0xFFD is the last address in range, 0xFFE the first out. -/
theorem witness_bcd :
    running.pc = 0x200#16 + 2#16 ∧ running.mem.wf = true ∧ (running.setI 0xFFD).I.toNat + 2 ≤ 0xFFF ∧
      (running.setI 0xFFD).I.toNat ≤ 0xFFD ∧ 0xFFF < (running.setI 0xFFE).I.toNat + 2 := by decide

/-- `RegisterStore` and `RegisterLoad`: I + x = 0xFFF and 0x1000, for x = 15 and for x = 0. -/
theorem witness_transfer :
    running.pc = 0x200#16 + 2#16 ∧ running.mem.wf = true ∧
      (running.setI 0xFF0).I.toNat + (15 : Reg).val ≤ 0xFFF ∧
      0xFFF < (running.setI 0xFF1).I.toNat + (15 : Reg).val ∧
      (running.setI 0xFFF).I.toNat + (0 : Reg).val ≤ 0xFFF := by decide

/-- `StoredWordIsFetched`: the last two registers are stored at 0xFFE and 0xFFF. -/
theorem witness_stored_word :
    let s := running.setI 0xFF0
    s.mem.wf = true ∧ (14 : Reg) < 15 ∧ s.I.toNat + 15 ≤ 0xFFF ∧
      (after (exec (.ldMemStore 15) s)).isSome = true ∧
      (s.setPc 0xFFE).pc.toNat = s.I.toNat + (14 : Reg).val := by decide

/-- `KeyLoadOrWait` and `KeyWaitPolls`: a key, no key, and a wait under a CPU tick. -/
theorem witness_key :
    (State.key running (some 0xF)).sampleKey.1 = some (0xF : Key) ∧
      (State.key running none).sampleKey.1 = none ∧ waiting.nextEvent.1 = .cpuTick ∧
      waiting.run = .running ∧ waiting.cpuMode = .waitKey 3 ∧
      (State.due waiting .timerTick).nextEvent.1 = .timerTick ∧
      (State.key waiting (some 0xF)).sampleKey.1 = some (0xF : Key) ∧
      (State.key waiting none).sampleKey.1 = none := by decide

/-- `DrawSprite`: n = 0 with I at the top, I + n - 1 = 0xFFF, and 0x1000. -/
theorem witness_draw :
    running.pc = 0x200#16 + 2#16 ∧ (running.setI 0xFFB).I.toNat + (5 : Fin 16).val - 1 ≤ 0xFFF ∧
      0 < (5 : Fin 16).val ∧ 0xFFF < (running.setI 0xFFC).I.toNat + (5 : Fin 16).val - 1 := by decide

/-- `DrawContract` and `DoubleDrawRestores`: the longest sprite. -/
theorem witness_sprite_length : (List.replicate 15 0xFF#8).length ≤ 15 := by decide

/-- Both conditions of `DrawContract` on a pixel of a one-byte sprite at (62, 31). -/
theorem witness_sprite_bit :
    SpriteBit [0xF0#8] 62 31 1 31 ∧ ¬SpriteBit [0xF0#8] 62 31 2 31 := by
  refine ⟨⟨0, 3, by decide, by decide, by decide, by decide, by decide⟩, ?_⟩
  rintro ⟨r, c, hr, hc, hb, hx, -⟩
  have hc4 : c = 4 := by omega
  have hr0 : r = 0 := by simpa using hr
  subst hc4
  subst hr0
  exact absurd hb (by decide)

/-- `FaultsArePrecise`: an underflow at A + 2, and a fetch fault at A. -/
theorem witness_precise :
    ((atStart 0x00EE).run = .running ∧ (after (step (atStart 0x00EE))).map (·.run) = some .faulted ∧
      (atStart 0x00EE).fetchInRange = true ∧ (atStart 0x00EE).oddPcFaults = false) ∧
    (aboveTop.run = .running ∧ (after (step aboveTop)).map (·.run) = some .faulted ∧
      ¬(aboveTop.fetchInRange = true ∧ aboveTop.oddPcFaults = false)) := by decide

/-- A Faulted state with a beep off and a cause recorded. -/
def faultedState : State := base.raise .stackUnderflow 0x200#16 0x00EE#16 0#16

/-- `FaultedIsTerminal`, with a command that is ignored. -/
theorem witness_faulted :
    (State.due faultedState (.host .reset)).run = .faulted ∧
      (State.due faultedState (.host .reset)).nextEvent.1 ≠ .host .readState := by decide

/-- `TimerTickEffect` and `TimersCountDown`: ST = 1 and ST = 0. -/
theorem witness_timer :
    (State.due (base.setST 1#8) .timerTick).nextEvent.1 = .timerTick ∧
      (State.due (base.setST 1#8) .timerTick).run = .running ∧ 0 < (base.setST 1#8).ST.toNat ∧
      ¬0 < base.ST.toNat ∧ (0 : Nat) < 1 := by decide

/-- `StoppedTakesNoTick`: both kinds of tick due in Stopped. -/
theorem witness_stopped :
    (State.due State.reset .cpuTick).run = .stopped ∧
      (State.due State.reset .cpuTick).nextEvent.1 = .cpuTick ∧
      (State.due State.reset .timerTick).nextEvent.1 = .timerTick := by decide

/-- The four clauses of `StartAndStop`. -/
theorem witness_start_stop :
    (State.due State.reset (.host .start)).nextEvent.1 = .host .start ∧
      (State.due State.reset (.host .stop)).nextEvent.1 = .host .stop ∧
      (State.due base (.host .start)).run = .running ∧ (State.due base (.host .stop)).run = .running ∧
      State.reset.run = .stopped ∧
      (State.due base (.host .start)).nextEvent.1 = .host .start ∧
      (State.due base (.host .stop)).nextEvent.1 = .host .stop := by decide

/-- The five clauses of `LifecycleTransitions`. -/
theorem witness_lifecycle :
    (after (step (State.due faultedState .cpuTick))).map (·.run) = some .faulted ∧
      (after (step (State.due State.reset (.host .start)))).map (·.run) = some .running ∧
      (after (step (State.due base (.host .stop)))).map (·.run) = some .stopped ∧
      (after (step (atStart 0x00EE))).map (·.run) = some .faulted ∧
      faultedState.run = .faulted ∧ State.reset.run = .stopped ∧ base.run = .running := by decide

/-- `ResetCommandEffect`, in Running with a beep. -/
theorem witness_reset_command :
    let s := State.due (base.setBeep true) (.host .reset)
    s.nextEvent.1 = .host .reset ∧ s.run ≠ .faulted := by decide

/-- `LoadCommandEffect`: a ROM of 3584 bytes, the longest, and one of 3585. -/
theorem witness_load_command :
    (∀ rom : List Byte, (State.due base (.host (.load rom true))).nextEvent.1 =
      .host (.load rom true)) ∧ base.run ≠ .faulted ∧
      (List.replicate 3584 0xFF#8).length ≤ 3584 ∧ 3584 < (List.replicate 3585 0xFF#8).length :=
  ⟨fun _ => rfl, by decide, by rw [List.length_replicate], by rw [List.length_replicate]; decide⟩

/-- `ReloadCommandEffect`: no ROM, and a retained ROM with the load it stands for. -/
theorem witness_reload_command :
    let s := State.due (base.setRom (some [0x60#8])) (.host (.reload false))
    let u := s.setSchedule { scripted := [.host (.load [0x60#8] false)], drawn := 0 }
    (State.due base (.host (.reload true))).nextEvent.1 = .host (.reload true) ∧ base.rom = none ∧
      base.run ≠ .faulted ∧ s.nextEvent.1 = .host (.reload false) ∧ s.rom = some [0x60#8] ∧
      s.run ≠ .faulted ∧ u.nextEvent = (.host (.load [0x60#8] false), s.nextEvent.2) := by decide

/-- `SpeedAndReadCommands`. -/
theorem witness_speed_and_read :
    (∀ q : Speed, (State.due base (.host (.setSpeed q))).nextEvent.1 = .host (.setSpeed q)) ∧
      base.run ≠ .faulted ∧ (State.due base (.host .readState)).nextEvent.1 = .host .readState :=
  ⟨fun _ => rfl, by decide, rfl⟩

/-- `OnlyNamedRegistersChange`: an ADD that changes both its destination and VF. -/
theorem witness_register_changes :
    regs (exec (.addReg 0 1) (State.with2 running 0 0xFF#8 1 0x02#8)) 0 15 = some (1#8, 1#8) ∧
      (State.with2 running 0 0xFF#8 1 0x02#8).getV 0 ≠ 1#8 ∧
      (State.with2 running 0 0xFF#8 1 0x02#8).getV 15 ≠ 1#8 := by decide

/-- `WritersOfEachUnit`: each unit is changed by some instruction. -/
theorem witness_writers :
    ((after (exec (.ldB 0) ((running.setI 0x300).setV 0 7#8))).map (·.mem) ≠ some running.mem) ∧
      ((after (exec (.call 0x300#12) running)).map (·.sp) ≠ some running.sp) ∧
      ((after (exec (.call 0x300#12) running)).map (·.S) ≠ some running.S) ∧
      ((after (exec (.ldI 0x300#12) running)).map (·.I) ≠ some running.I) ∧
      ((after (exec (.ldDtVx 1) (running.setV 1 1#8))).map (·.DT) ≠ some running.DT) ∧
      ((after (exec (.ldStVx 1) (running.setV 1 1#8))).map (·.ST) ≠ some running.ST) ∧
      ((after (exec (.drw 0 0 1) running)).map (·.display) ≠ some running.display) := by decide

/-- `VF_ORDER = either`, with one choice scripted: the flag last. -/
def eitherOrder : State :=
  (State.config running fun c => { c with vfOrder := .either }).setOrders
    { scripted := [true], drawn := 0 }

/-- `UsersOfEachPort`: a sample, a draw, a choice, and the three kinds of port call. -/
theorem witness_port_users :
    ((after (exec (.skp 0) (State.key running none))).map (·.keys) ≠
        some (State.key running none).keys) ∧
      ((after (exec (.rnd 0 0#8) (State.rand running 1#8))).map (·.rands) ≠
        some (State.rand running 1#8).rands) ∧
      ((after (exec (.addReg 0 1) eitherOrder)).map (·.orders) ≠ some eitherOrder.orders) ∧
      ((after (exec .cls running)).map (·.ports) ≠ some running.ports) ∧
      ((after (exec (.drw 0 0 1) running)).map (·.ports) ≠ some running.ports) ∧
      ((after (exec .ret (running.setBeep true))).map (·.ports) ≠ some running.ports) := by decide

/-- `NoInstructionReadsST`: an instruction that writes ST and one that does not. -/
theorem witness_sound_timer :
    (after (exec (.ldStVx 1) running)).isSome = true ∧ (after (exec (.ldVxDt 1) running)).isSome = true ∧
      (∃ x, Instr.ldStVx 1 = .ldStVx x) ∧ ¬∃ x, Instr.ldVxDt 1 = .ldStVx x :=
  ⟨by decide, by decide, ⟨1, rfl⟩, fun ⟨_, h⟩ => (by cases h)⟩

/-- `ParametersStay`: a step under a tick. -/
theorem witness_parameters_stay :
    (after (step (atStart 0x6005))).isSome = true ∧
      ∀ q, (atStart 0x6005).nextEvent.1 ≠ .host (.setSpeed q) :=
  ⟨by decide, fun _ h => (by cases h)⟩

/-- `StepKeepsInvariant` and `StepKeepsPcBounded`: a state with both invariants and a next state. -/
theorem witness_invariants :
    Inv (atStart 0x2300) ∧ PcBounded (atStart 0x2300) ∧
      (after (step (atStart 0x2300))).isSome = true :=
  ⟨⟨by decide, by decide, by decide, by decide, fun _ => rfl, by decide, fun _ h => (by cases h)⟩,
    ⟨by decide, by decide⟩, by decide⟩

end Sys2Proof.Tests
end

section
/-! SUPPORT. Which units of the state one instruction may write, said once for every instruction:
`exec_writesWithin`. The claims about writers are instances of it. -/

namespace Sys2Proof.Machine

/-- A unit of the state whose writers the rules list. -/
inductive Part
  | reg (r : Reg)
  | index
  | pc
  | sp
  | slots
  | delay
  | sound
  | memory
  | display

/-- The unit holds in `t` what it holds in `s`. -/
def Part.Kept (s t : State) : Part → Prop
  | .reg r => t.getV r = s.getV r
  | .index => t.I = s.I
  | .pc => t.pc = s.pc
  | .sp => t.sp = s.sp
  | .slots => t.S = s.S
  | .delay => t.DT = s.DT
  | .sound => t.ST = s.ST
  | .memory => t.mem = s.mem
  | .display => t.display = s.display

/-- Jumps, CALL, RET and the skips: the instructions that write pc beyond its advance (R26, R67). -/
def Instr.writesPc (i : Instr) : Bool :=
  match i with
  | .ret | .jp _ | .call _ | .jpV0 _ | .seImm _ _ | .sneImm _ _ | .seReg _ _ | .sneReg _ _
  | .skp _ | .sknp _ => true
  | .sys _ | .cls | .ldImm _ _ | .addImm _ _ | .ldReg _ _ | .orReg _ _ | .andReg _ _ | .xorReg _ _
  | .addReg _ _ | .subReg _ _ | .shr _ _ | .subnReg _ _ | .shl _ _ | .ldI _ | .rnd _ _ | .drw _ _ _
  | .ldVxDt _ | .ldVxK _ | .ldDtVx _ | .ldStVx _ | .addI _ | .ldF _ | .ldB _ | .ldMemStore _
  | .ldMemLoad _ => false

/-- The writers of each unit, as R23, R24, R25, R29, R32, R33, R46 and R141 list them. -/
def MayWrite (c : Config) (i : Instr) : Part → Prop
  | .reg r => r ∈ destRegs i ∨ (r = VF ∧ writesFlag c i = true)
  | .index => (∃ nnn, i = .ldI nnn) ∨ (∃ x, i = .addI x ∨ i = .ldF x) ∨
      (c.memIncrementsI = true ∧ ∃ x, i = .ldMemStore x ∨ i = .ldMemLoad x)
  | .pc => Instr.writesPc i = true
  | .sp => i = .ret ∨ ∃ nnn, i = .call nnn
  | .slots => ∃ nnn, i = .call nnn
  | .delay => ∃ x, i = .ldDtVx x
  | .sound => ∃ x, i = .ldStVx x
  | .memory => ∃ x, i = .ldB x ∨ i = .ldMemStore x
  | .display => i = .cls ∨ ∃ x y n, i = .drw x y n

/-- From `s` to `t` only units in `W` may differ. -/
def WritesWithin (W : Part → Prop) (s t : State) : Prop := ∀ p, W p ∨ p.Kept s t

section
variable {W : Part → Prop} {s t u : State}

/-- A unit that differs is one of `W`. -/
theorem WritesWithin.of_not_kept {p : Part} (h : WritesWithin W s t) (hp : ¬p.Kept s t) : W p :=
  (h p).resolve_right hp

/-- A unit outside `W` is kept. -/
theorem WritesWithin.kept {p : Part} (h : WritesWithin W s t) (hp : ¬W p) : p.Kept s t :=
  (h p).resolve_left hp

theorem Part.Kept.trans {p : Part} (h : p.Kept s t) (h' : p.Kept t u) : p.Kept s u := by
  cases p <;> exact Eq.trans h' h

theorem WritesWithin.refl (W : Part → Prop) (s : State) : WritesWithin W s s := by
  intro p
  cases p <;> exact .inr rfl

theorem WritesWithin.trans (h : WritesWithin W s t) (h' : WritesWithin W t u) :
    WritesWithin W s u := fun p =>
  (h p).elim .inl fun hp => (h' p).imp id hp.trans

/-! ### One rule per operation -/

theorem writesWithin_setV {x : Reg} (v : Byte) (hx : W (.reg x)) : WritesWithin W s (s.setV x v)
  | .reg r => if h : r = x then .inl (h ▸ hx) else .inr (State.setV_getV_ne s v h)
  | .index | .pc | .sp | .slots | .delay | .sound | .memory | .display => .inr rfl

theorem writesWithin_setI (n : Nat) (h : W .index) : WritesWithin W s (s.setI n)
  | .index => .inl h
  | .reg _ | .pc | .sp | .slots | .delay | .sound | .memory | .display => .inr rfl

theorem writesWithin_setPc (n : Nat) (h : W .pc) : WritesWithin W s (s.setPc n)
  | .pc => .inl h
  | .reg _ | .index | .sp | .slots | .delay | .sound | .memory | .display => .inr rfl

theorem writesWithin_setSp (k : Fin 17) (h : W .sp) : WritesWithin W s (s.setSp k)
  | .sp => .inl h
  | .reg _ | .index | .pc | .slots | .delay | .sound | .memory | .display => .inr rfl

theorem writesWithin_setS (S : Vector Word 16) (h : W .slots) : WritesWithin W s (s.setS S)
  | .slots => .inl h
  | .reg _ | .index | .pc | .sp | .delay | .sound | .memory | .display => .inr rfl

theorem writesWithin_setDT (v : Byte) (h : W .delay) : WritesWithin W s (s.setDT v)
  | .delay => .inl h
  | .reg _ | .index | .pc | .sp | .slots | .sound | .memory | .display => .inr rfl

theorem writesWithin_setST (v : Byte) (h : W .sound) : WritesWithin W s (s.setST v)
  | .sound => .inl h
  | .reg _ | .index | .pc | .sp | .slots | .delay | .memory | .display => .inr rfl

theorem writesWithin_setMem (m : Memory) (h : W .memory) : WritesWithin W s (s.setMem m)
  | .memory => .inl h
  | .reg _ | .index | .pc | .sp | .slots | .delay | .sound | .display => .inr rfl

theorem writesWithin_setDisplay (fb : FrameBuffer) (h : W .display) :
    WritesWithin W s (s.setDisplay fb)
  | .display => .inl h
  | .reg _ | .index | .pc | .sp | .slots | .delay | .sound | .memory => .inr rfl

theorem writesWithin_emit (c : PortCall) : WritesWithin W s (s.emit c) := .refl W s

/-- Taking a fault writes none of the units (R152). -/
theorem writesWithin_raiseIn (cause : FaultCause) (i : Instr) (data : Word) :
    WritesWithin W s (s.raiseIn cause i data) := by
  rw [State.raiseIn, State.raise_eq]
  exact .refl W s

theorem writesWithin_skipIf (c : Bool) (h : W .pc) : WritesWithin W s (s.skipIf c) := by
  rw [State.skipIf_eq]
  exact writesWithin_setPc _ h

theorem writesWithin_writeLogic {x : Reg} (r : Byte) (hx : W (.reg x))
    (hf : s.cfg.logicClearsVf = true → W (.reg VF)) : WritesWithin W s (s.writeLogic x r) := by
  rw [State.writeLogic_eq]
  split
  · exact (writesWithin_setV r hx).trans (writesWithin_setV _ (hf ‹_›))
  · exact writesWithin_setV r hx

theorem writesWithin_writeRF {x : Reg} (r : Byte) (f : Bool) (hx : W (.reg x))
    (hf : W (.reg VF)) : WritesWithin W s (s.writeRF x r f) := by
  obtain ⟨-, o, -, h⟩ | ⟨-, o, -, h⟩ := s.writeRF_cases x r f <;> rw [h]
  · exact (writesWithin_setV (s := s.setOrders o) r hx).trans (writesWithin_setV _ hf)
  · exact (writesWithin_setV (s := s.setOrders o) _ hf).trans (writesWithin_setV _ hx)

theorem writesWithin_loadRegs {rs : List Reg} (h : ∀ r ∈ rs, W (.reg r)) :
    WritesWithin W s (s.loadRegs rs) := by
  induction rs generalizing s with
  | nil => exact .refl W s
  | cons r rest ih =>
    exact (writesWithin_setV _ (h r (.head _))).trans (ih fun q hq => h q (.tail _ hq))

theorem writesWithin_bumpI (x : Reg) (h : s.cfg.memIncrementsI = true → W .index) :
    WritesWithin W s (s.bumpI x) := by
  rw [State.bumpI_eq]
  split
  · exact writesWithin_setI _ (h ‹_›)
  · exact .refl W s

end

/-! ### Every instruction -/

/-- Every instruction answers a next state, and has written only the units it is listed for. -/
theorem exists_exec_writesWithin (i : Instr) (s : State) :
    ∃ t, exec i s = .next t ∧ WritesWithin (MayWrite s.cfg i) s t := by
  cases i with
  | sys nnn => exact ⟨_, rfl, .refl _ s⟩
  | cls =>
    exact ⟨_, rfl, (writesWithin_setDisplay _ (.inl rfl)).trans (writesWithin_emit _)⟩
  | ret =>
    simp only [exec, execRet]
    split
    · next v u hp =>
      obtain ⟨_, _, _, rfl⟩ := State.pop_spec hp
      exact ⟨_, rfl, (writesWithin_setSp _ (.inl rfl)).trans (writesWithin_setPc _ rfl)⟩
    · exact ⟨_, rfl, writesWithin_raiseIn _ _ _⟩
  | call nnn =>
    simp only [exec, execCall]
    split
    · next u hp =>
      obtain ⟨_, rfl⟩ := State.push_spec hp
      exact ⟨_, rfl, ((writesWithin_setSp _ (.inr ⟨nnn, rfl⟩)).trans
        (writesWithin_setS _ ⟨nnn, rfl⟩)).trans (writesWithin_setPc _ rfl)⟩
    · exact ⟨_, rfl, writesWithin_raiseIn _ _ _⟩
  | jp nnn | jpV0 nnn => exact ⟨_, rfl, writesWithin_setPc _ rfl⟩
  | seImm x kk | sneImm x kk | seReg x y | sneReg x y =>
    exact ⟨_, rfl, writesWithin_skipIf _ rfl⟩
  | skp x | sknp x => exact ⟨_, rfl, writesWithin_skipIf (s := s.sampleKey.2) _ rfl⟩
  | ldImm x kk | ldReg x y | ldVxDt x => exact ⟨_, rfl, writesWithin_setV _ (.inl (.head _))⟩
  | addImm x kk =>
    simp only [exec, execAddImm]
    split
    · next hf => exact ⟨_, rfl, writesWithin_writeRF _ _ (.inl (.head _)) (.inr ⟨rfl, hf⟩)⟩
    · exact ⟨_, rfl, writesWithin_setV _ (.inl (.head _))⟩
  | orReg x y | andReg x y | xorReg x y =>
    exact ⟨_, rfl, writesWithin_writeLogic _ (.inl (.head _)) fun hf => .inr ⟨rfl, hf⟩⟩
  | addReg x y | subReg x y | subnReg x y =>
    exact ⟨_, rfl, writesWithin_writeRF _ _ (.inl (.head _)) (.inr ⟨rfl, rfl⟩)⟩
  | shr x y | shl x y =>
    exact ⟨_, rfl, (writesWithin_setV _ (.inr ⟨rfl, rfl⟩)).trans
      (writesWithin_setV _ (.inl (.head _)))⟩
  | rnd x kk => exact ⟨_, rfl, writesWithin_setV (s := s.drawRand.2) _ (.inl (.head _))⟩
  | ldI nnn => exact ⟨_, rfl, writesWithin_setI _ (.inl ⟨nnn, rfl⟩)⟩
  | addI x => exact ⟨_, rfl, writesWithin_setI _ (.inr (.inl ⟨x, .inl rfl⟩))⟩
  | ldF x => exact ⟨_, rfl, writesWithin_setI _ (.inr (.inl ⟨x, .inr rfl⟩))⟩
  | ldB x =>
    simp only [exec, execLdB]
    split
    · exact ⟨_, rfl, writesWithin_setMem _ ⟨x, .inl rfl⟩⟩
    · exact ⟨_, rfl, writesWithin_raiseIn _ _ _⟩
  | ldMemStore x =>
    simp only [exec, execLdMemStore]
    split
    · exact ⟨_, rfl, (writesWithin_setMem _ ⟨x, .inr rfl⟩).trans
        (writesWithin_bumpI x fun hm => .inr (.inr ⟨hm, x, .inl rfl⟩))⟩
    · exact ⟨_, rfl, writesWithin_raiseIn _ _ _⟩
  | ldMemLoad x =>
    simp only [exec, execLdMemLoad]
    split
    · refine ⟨_, rfl, (writesWithin_loadRegs fun r hr => .inl hr).trans
        (writesWithin_bumpI x fun hm => .inr (.inr ⟨?_, x, .inr rfl⟩))⟩
      rwa [(completes_loadRegs s _).cfg] at hm
    · exact ⟨_, rfl, writesWithin_raiseIn _ _ _⟩
  | drw x y n =>
    simp only [exec, execDrw]
    split
    · exact ⟨_, rfl, ((writesWithin_setDisplay _ (.inr ⟨x, y, n, rfl⟩)).trans
        (writesWithin_emit _)).trans (writesWithin_setV _ (.inr ⟨rfl, rfl⟩))⟩
    · exact ⟨_, rfl, writesWithin_raiseIn _ _ _⟩
  | ldDtVx x => exact ⟨_, rfl, writesWithin_setDT _ ⟨x, rfl⟩⟩
  | ldStVx x => exact ⟨_, rfl, writesWithin_setST _ ⟨x, rfl⟩⟩
  | ldVxK x =>
    simp only [exec, execLdVxK, State.takeKeyOrWait]
    split
    · exact ⟨_, rfl, writesWithin_setV (s := s.sampleKey.2) _ (.inl (.head _))⟩
    · exact ⟨_, rfl, .refl _ s⟩

/-- The same, of the next state that an instruction answers. -/
theorem exec_writesWithin {i : Instr} {s t : State} (h : exec i s = .next t) :
    WritesWithin (MayWrite s.cfg i) s t := by
  obtain ⟨u, hu, hw⟩ := exists_exec_writesWithin i s
  cases hu.symm.trans h
  exact hw

/-- rom and the parameters are written by no instruction (R36). -/
theorem exec_keeps_rom_cfg {i : Instr} {s t : State} (h : exec i s = .next t) :
    t.rom = s.rom ∧ t.cfg = s.cfg := by
  obtain ⟨u, hu, ⟨cause, data, -, rfl⟩ | hc⟩ := exec_cases i s <;> cases hu.symm.trans h
  · rw [State.raiseIn, State.raise_eq]
    exact ⟨rfl, rfl⟩
  · exact ⟨hc.rom, hc.cfg⟩

/-- Settles O53, as the register units of `exec_writesWithin`. -/
theorem onlyNamedRegistersChange : Obligations.OnlyNamedRegistersChange :=
  fun _ _ _ h r hr => (exec_writesWithin h).of_not_kept (p := .reg r) hr

/-- Settles O54, one unit of `exec_writesWithin` per clause. -/
theorem writersOfEachUnit : Obligations.WritersOfEachUnit := fun _ _ _ h =>
  have hw := exec_writesWithin h
  ⟨hw.of_not_kept (p := .memory), hw.of_not_kept (p := .sp), hw.of_not_kept (p := .slots),
    hw.of_not_kept (p := .index), hw.of_not_kept (p := .delay), hw.of_not_kept (p := .sound),
    hw.of_not_kept (p := .display), exec_keeps_rom_cfg h⟩

end Sys2Proof.Machine
end

section
/-! SUPPORT. What a timer tick, a key poll and a host command do, said once. -/

namespace Sys2Proof.Machine

/-! ### The two ticks that run no instruction -/

/-- Everything that a timer tick taken in Running does (R161, R162). -/
theorem State.runTimers_eq (s : State) :
    s.runTimers =
      { s with
        DT := countDown s.DT, ST := countDown s.ST, beep := !decide (s.ST = 0#8),
        ports := s.ports ++
          (if s.ST = 0#8 then (if s.beep then [.stopBeep] else [])
           else (if s.beep then [] else [.startBeep])) } := by
  unfold State.runTimers State.audioUpdate
  by_cases h : s.ST = 0#8
  · simp only [State.silence_eq, h]
    rfl
  · simp only [State.sound_eq, h]
    rfl

/-- A timer tick does nothing unless Running (R159). -/
theorem timerTick_cases (s : State) :
    timerTick s = s ∨ (s.run = .running ∧ timerTick s = s.runTimers) := by
  unfold timerTick
  split
  · exact .inl rfl
  · exact .inl rfl
  · exact .inr ⟨‹_›, rfl⟩

/-- A poll takes one sample; with a key it writes the register and ends the wait (R134). -/
theorem pollKey_cases (x : Reg) (s : State) : ∃ f,
    pollKey x s = s.setKeys f ∨ ∃ v, pollKey x s = ((s.setKeys f).setV x v).setCpuMode .exec := by
  obtain ⟨f, hf⟩ := s.sampleKey_eq
  refine ⟨f, ?_⟩
  unfold pollKey
  rw [hf]
  split
  · exact .inr ⟨_, rfl⟩
  · exact .inl rfl

/-! ### Host commands -/

/-- Everything that the `reset` command does (R190). -/
theorem State.performReset_eq (s : State) :
    s.performReset =
      { s with
        run := .stopped, cpuMode := .exec, V := Vector.replicate 16 0#8, I := 0#16, sp := 0,
        S := Vector.replicate 16 0#16, DT := 0#8, ST := 0#8, mem := Memory.afterReset s.cfg.font,
        beep := false, display := FrameBuffer.blank, pc := trunc16 romBase,
        ports := s.ports ++ (if s.beep then [.stopBeep] else []) ++ [.displayClear] } := by
  unfold State.performReset
  rw [State.silence_eq]
  rfl

/-- The stop with which `load` begins leaves nothing that its reset does not write (R193). -/
theorem State.hostStop_hostReset_eq {s : State} (h : s.run ≠ .faulted) :
    s.hostStop.hostReset = s.performReset := by
  unfold State.hostStop
  split
  · simp only [State.hostReset, State.setCpuMode_run, State.setRun_run, State.performReset_eq]
    rfl
  · next hr => simp only [State.hostReset, hr]
  · exact absurd ‹_› h

/-- Everything that a `load` of a ROM that fits does (R193). -/
theorem State.performLoad_eq {s : State} (h : s.run ≠ .faulted) (rom : List Byte) (a : Bool) :
    s.performLoad rom a =
      { s.performReset with
        mem := (Memory.afterReset s.cfg.font).writeBytes romBase rom, rom := some rom,
        run := if a then .running else .stopped } := by
  unfold State.performLoad
  rw [State.hostStop_hostReset_eq h, State.performReset_eq]
  cases a <;> rfl

/-- What a host command makes of `s` (R166, R177). -/
inductive HostEffect (s : State) : HostCommand → State → Prop
  /-- The command is not accepted in `s.run`. -/
  | ignored (c : HostCommand)
      (h : s.run = .faulted ∨ (c = .start ∧ s.run = .running) ∨ (c = .stop ∧ s.run = .stopped)) :
      HostEffect s c s
  | start (h : s.run = .stopped) : HostEffect s .start (s.setRun .running)
  | stop (h : s.run = .running) : HostEffect s .stop ((s.setRun .stopped).setCpuMode .exec)
  | reset (h : s.run ≠ .faulted) : HostEffect s .reset s.performReset
  | load (c : HostCommand) (rom : List Byte) (a : Bool)
      (hc : c = .load rom a ∨ (c = .reload a ∧ s.rom = some rom)) (h : s.run ≠ .faulted)
      (hlen : rom.length ≤ romMax) : HostEffect s c (s.performLoad rom a)
  | setSpeed (q : Speed) (h : s.run ≠ .faulted) :
      HostEffect s (.setSpeed q) (s.setCfg { s.cfg with speed := q })
  /-- The host gets an answer and no state changes. -/
  | answers (c : HostCommand) (r : PortCall)
      (hr : r = .romTooLarge ∨ r = .noRomLoaded ∨ r = .hostState s.toBlock) :
      HostEffect s c (s.emit r)

/-- `load` is ignored, refused, or performed on a ROM that fits (R193, R195). -/
theorem hostLoad_effect {s : State} {c : HostCommand} {rom : List Byte} {a : Bool}
    (hc : c = .load rom a ∨ (c = .reload a ∧ s.rom = some rom)) :
    HostEffect s c (s.hostLoad rom a) := by
  unfold State.hostLoad
  split
  · exact .ignored c (.inl ‹_›)
  · split
    · exact .answers c _ (.inl rfl)
    · exact .load c rom a hc ‹_› (by omega)

theorem hostCommand_effect (c : HostCommand) (s : State) : HostEffect s c (hostCommand c s) := by
  cases c with
  | start =>
    simp only [hostCommand, State.hostStart]
    split
    · exact .start ‹_›
    · exact .ignored _ (.inr (.inl ⟨rfl, ‹_›⟩))
    · exact .ignored _ (.inl ‹_›)
  | stop =>
    simp only [hostCommand, State.hostStop]
    split
    · exact .stop ‹_›
    · exact .ignored _ (.inr (.inr ⟨rfl, ‹_›⟩))
    · exact .ignored _ (.inl ‹_›)
  | reset =>
    simp only [hostCommand, State.hostReset]
    split
    · exact .ignored _ (.inl ‹_›)
    · next h => exact .reset (by simp [h])
    · next h => exact .reset (by simp [h])
  | load rom a => exact hostLoad_effect (.inl rfl)
  | reload a =>
    simp only [hostCommand, State.hostReload]
    split
    · exact .ignored _ (.inl ‹_›)
    · split
      · exact .answers _ _ (.inr (.inl rfl))
      · next rom h => exact hostLoad_effect (.inr ⟨rfl, h⟩)
  | setSpeed q =>
    simp only [hostCommand, State.hostSetSpeed]
    split
    · exact .ignored _ (.inl ‹_›)
    · exact .setSpeed q ‹_›
  | readState => exact .answers _ _ (.inr (.inr rfl))

/-- Settles O46: both ticks look at `run` first, and taking the event leaves `run` as it is. -/
theorem stoppedTakesNoTick : Obligations.StoppedTakesNoTick := by
  intro s hs he
  have hr : s.nextEvent.2.run = .stopped := hs
  obtain he | he := he
  · simp only [step_of_cpuTick he, cpuTick, hr]
  · simp only [step_of_timerTick he, timerTick, hr]

end Sys2Proof.Machine
end

section
/-! SUPPORT. The parameters over a step: the CPU and the timer engine write none (R36). -/

namespace Sys2Proof.Machine

theorem cpuTick_cfg {s t : State} (h : cpuTick s = .next t) : t.cfg = s.cfg := by
  obtain ⟨-, rfl⟩ | ⟨-, x, -, rfl⟩ | ⟨-, -, h⟩ := cpuTick_cases h
  · rfl
  · obtain ⟨f, h | ⟨v, h⟩⟩ := pollKey_cases x s <;> rw [h] <;> rfl
  · obtain ⟨_, _, -, rfl⟩ | ⟨-, _, -, rfl⟩ | ⟨-, rfl⟩ | ⟨-, i, -, hx⟩ := fetchExecute_cases h
    · rw [State.raise_eq]
    · rw [State.raise_eq]; rfl
    · rfl
    · exact (exec_keeps_rom_cfg hx).2

theorem timerTick_cfg (s : State) : (timerTick s).cfg = s.cfg := by
  obtain h | ⟨-, h⟩ := timerTick_cases s <;> rw [h]
  rw [State.runTimers_eq]

/-- A host command leaves the parameters as they are, or it sets SPEED and nothing else (R165). -/
theorem HostEffect.cfg {s t : State} {c : HostCommand} (h : HostEffect s c t) :
    t.cfg = s.cfg ∨ ∃ q, c = .setSpeed q ∧ t.cfg = { s.cfg with speed := q } := by
  cases h with
  | setSpeed q _ => exact .inr ⟨q, rfl, rfl⟩
  | reset _ => exact .inl (by rw [State.performReset_eq])
  | load _ rom a _ h _ => exact .inl (by rw [State.performLoad_eq h, State.performReset_eq])
  | ignored | start | stop | answers => exact .inl rfl

/-- A step leaves the parameters as they are, or it takes the host's set SPEED. -/
theorem step_cfg {s t : State} (h : step s = .next t) :
    t.cfg = s.cfg ∨
      ∃ q, s.nextEvent.1 = .host (.setSpeed q) ∧ t.cfg = { s.cfg with speed := q } := by
  obtain ⟨-, h⟩ | ⟨-, rfl⟩ | ⟨c, hc, rfl⟩ := step_cases h
  · exact .inl (cpuTick_cfg (s := s.nextEvent.2) h)
  · exact .inl (timerTick_cfg _)
  · obtain h | ⟨q, rfl, h⟩ := (hostCommand_effect c s.nextEvent.2).cfg
    · exact .inl h
    · exact .inr ⟨q, hc, h⟩

/-- Settles O57, from the two cases of `step_cfg`. -/
theorem parametersStay : Obligations.ParametersStay := by
  intro s t h
  obtain h | ⟨q, hq, h⟩ := step_cfg h
  · exact ⟨by rw [h], fun _ => h⟩
  · exact ⟨by rw [h], fun hn => absurd hq (hn q)⟩

end Sys2Proof.Machine
end

section
/-! SUPPORT. The invariant of the core, kept by every step: each agent of R163 keeps it. -/

namespace Sys2Proof.Machine

/-- Outside Faulted the invariant asks for an all-zero record and nothing of the beep. -/
theorem inv_iff_of_not_faulted {s : State} (h : s.run ≠ .faulted) :
    Inv s ↔ s.mem.wf = true ∧ s.I.toNat ≤ 0xFFF ∧ (s.cpuMode ≠ .exec → s.run = .running) ∧
      s.fault = ⟨.none, 0#16, 0#16, 0#16⟩ ∧ RomFits s := by
  constructor
  · rintro ⟨hmem, hI, hwait, hfault, hzero, -, hrom⟩
    exact ⟨hmem, hI, hwait, hzero (by simpa [h] using hfault), hrom⟩
  · rintro ⟨hmem, hI, hwait, hzero, hrom⟩
    exact ⟨hmem, hI, hwait, by simp [h, hzero], fun _ => hzero, fun hf => absurd hf h, hrom⟩

section
variable {s t : State}

/-- Taking a fault with a cause keeps the invariant (R152). -/
theorem Inv.raise (hs : Inv s) {cause : FaultCause} (hc : cause ≠ .none) (addr word data : Word) :
    Inv (s.raise cause addr word data) := by
  obtain ⟨hmem, hI, -, -, -, -, hrom⟩ := hs
  rw [State.raise_eq]
  exact ⟨hmem, hI, fun h => absurd rfl h, ⟨fun _ => hc, fun _ => rfl⟩, fun h => absurd h hc,
    fun _ => rfl, hrom⟩

theorem Inv.setCpuMode_exec (hs : Inv s) : Inv (s.setCpuMode .exec) := by
  obtain ⟨hmem, hI, -, hrest⟩ := hs
  exact ⟨hmem, hI, fun h => absurd rfl h, hrest⟩

/-- In Running, an instruction that completes keeps the invariant. -/
theorem Inv.completes (hs : Inv s) (hr : s.run = .running) (h : Completes s t) : Inv t := by
  have hrt : t.run = .running := h.run.trans hr
  obtain ⟨hmem, hI, -, hzero, hrom⟩ := (inv_iff_of_not_faulted (by simp [hr])).1 hs
  exact (inv_iff_of_not_faulted (by simp [hrt])).2 ⟨h.mem hmem, h.index hI, fun _ => hrt,
    h.fault.trans hzero, fun r hrom' => hrom r (h.rom ▸ hrom')⟩

theorem Inv.exec (hs : Inv s) (hr : s.run = .running) {i : Instr} (h : exec i s = .next t) :
    Inv t := by
  obtain ⟨u, hu, ⟨cause, data, hc, rfl⟩ | hcomp⟩ := exec_cases i s <;> cases hu.symm.trans h
  · exact hs.raise hc _ _ _
  · exact hs.completes hr hcomp

theorem Inv.fetchExecute (hs : Inv s) (hr : s.run = .running) (h : fetchExecute s = .next t) :
    Inv t := by
  have hadv : Inv s.advancePc := hs
  obtain ⟨cause, data, hc, rfl⟩ | ⟨-, cause, hc, rfl⟩ | ⟨-, rfl⟩ | ⟨-, i, -, hx⟩ :=
    fetchExecute_cases h
  · exact hs.raise (by rintro rfl; simp at hc) _ _ _
  · exact hadv.raise (by rintro rfl; simp at hc) _ _ _
  · exact hadv
  · exact hadv.exec hr hx

theorem Inv.pollKey (hs : Inv s) (x : Reg) : Inv (pollKey x s) := by
  obtain ⟨f, h | ⟨v, h⟩⟩ := pollKey_cases x s <;> rw [h]
  · exact hs
  · exact Inv.setCpuMode_exec (s := (s.setKeys f).setV x v) hs

theorem Inv.cpuTick (hs : Inv s) (h : cpuTick s = .next t) : Inv t := by
  obtain ⟨-, rfl⟩ | ⟨-, x, -, rfl⟩ | ⟨hr, -, hf⟩ := cpuTick_cases h
  · exact hs
  · exact hs.pollKey x
  · exact hs.fetchExecute hr hf

/-- A timer tick may start a beep, but only in Running. -/
theorem Inv.timerTick (hs : Inv s) : Inv (timerTick s) := by
  obtain h | ⟨hr, h⟩ := timerTick_cases s <;> rw [h]
  · exact hs
  · have hn : s.run ≠ .faulted := by simp [hr]
    rw [State.runTimers_eq]
    refine (inv_iff_of_not_faulted ?_).2 ?_
    · exact hn
    · exact (inv_iff_of_not_faulted hn).1 hs

theorem Inv.performReset (hs : Inv s) (h : s.run ≠ .faulted) : Inv s.performReset := by
  obtain ⟨-, -, -, hzero, hrom⟩ := (inv_iff_of_not_faulted h).1 hs
  rw [State.performReset_eq]
  exact (inv_iff_of_not_faulted (by simp)).2
    ⟨Memory.afterReset_wf _, Nat.zero_le _, fun hm => absurd rfl hm, hzero, hrom⟩

theorem Inv.performLoad (hs : Inv s) (h : s.run ≠ .faulted) {rom : List Byte}
    (hlen : rom.length ≤ romMax) (a : Bool) : Inv (s.performLoad rom a) := by
  obtain ⟨-, -, -, hzero, -⟩ := (inv_iff_of_not_faulted h).1 hs
  have hrun : (if a then RunState.running else .stopped) ≠ .faulted := by cases a <;> decide
  rw [State.performLoad_eq h, State.performReset_eq]
  exact (inv_iff_of_not_faulted hrun).2
    ⟨Memory.writeBytes_wf (Memory.afterReset_wf _) _ _, Nat.zero_le _, fun hm => absurd rfl hm,
      hzero, fun _ hr => Option.some.inj hr ▸ hlen⟩

theorem Inv.hostEffect (hs : Inv s) {c : HostCommand} (h : HostEffect s c t) : Inv t := by
  cases h with
  | start hr =>
    obtain ⟨hmem, hI, -, hzero, hrom⟩ := (inv_iff_of_not_faulted (by simp [hr])).1 hs
    exact (inv_iff_of_not_faulted (by simp)).2 ⟨hmem, hI, fun _ => rfl, hzero, hrom⟩
  | stop hr =>
    obtain ⟨hmem, hI, -, hzero, hrom⟩ := (inv_iff_of_not_faulted (by simp [hr])).1 hs
    exact (inv_iff_of_not_faulted (by simp)).2 ⟨hmem, hI, fun hm => absurd rfl hm, hzero, hrom⟩
  | reset hr => exact hs.performReset hr
  | load _ rom a _ hr hlen => exact hs.performLoad hr hlen a
  | ignored | setSpeed | answers => exact hs

end

/-- Settles O58: each of the three agents keeps the invariant, and so does taking the event. -/
theorem stepKeepsInvariant : Obligations.StepKeepsInvariant := by
  intro s t hs h
  have hev : Inv s.nextEvent.2 := hs
  obtain ⟨-, h⟩ | ⟨-, rfl⟩ | ⟨c, -, rfl⟩ := step_cases h
  · exact hev.cpuTick h
  · exact hev.timerTick
  · exact hev.hostEffect (hostCommand_effect c _)

end Sys2Proof.Machine
end

section
/-! SUPPORT. The bounds of R28 on pc and the stack slots, kept by every step. A fetch is in range
only with pc at most 0xFFE, so an instruction runs with pc at most 0x1000, and pushes no more. -/

namespace Sys2Proof.Machine

section
variable {s t : State}

theorem PcBounded.of_kept (hs : PcBounded s) (hpc : t.pc = s.pc) (hS : t.S = s.S) :
    PcBounded t := by
  simpa only [PcBounded, hpc, hS] using hs

theorem PcBounded.setPc (hs : PcBounded s) {n : Nat} (hn : n ≤ 0x10FE) : PcBounded (s.setPc n) :=
  ⟨(Nat.mod_le n _).trans hn, hs.2⟩

theorem PcBounded.raise (hs : PcBounded s) (cause : FaultCause) (addr word data : Word) :
    PcBounded (s.raise cause addr word data) := by
  rw [State.raise_eq]
  exact hs

/-- A taken skip from pc at most 0x1000 stays in the bounds (R96). -/
theorem PcBounded.skipIf (hs : PcBounded s) (hpc : s.pc.toNat ≤ 0x1000) (c : Bool) :
    PcBounded (s.skipIf c) := by
  rw [State.skipIf_eq]
  exact hs.setPc (by split <;> omega)

/-- A push of a value within the slot bound. -/
theorem PcBounded.push (hs : PcBounded s) {v : Word} (hv : v.toNat ≤ 0x1000)
    (h : s.push v = some t) : PcBounded t := by
  obtain ⟨hlt, rfl⟩ := State.push_spec h
  refine ⟨hs.1, fun k => ?_⟩
  rw [State.setS_S, Vector.getElem_set]
  split
  · exact hv
  · exact hs.2 k

/-- A pop gives a value within the slot bound. -/
theorem PcBounded.pop (hs : PcBounded s) {v : Word} (h : s.pop = some (v, t)) :
    v.toNat ≤ 0x1000 ∧ PcBounded t := by
  obtain ⟨hlt, -, rfl, rfl⟩ := State.pop_spec h
  exact ⟨hs.2 ⟨_, hlt⟩, hs⟩

/-- An address operand is at most 0xFFF. -/
theorem target_le (nnn : Addr) : target nnn ≤ 0xFFF := Nat.le_of_lt_succ nnn.isLt

theorem PcBounded.exec (hs : PcBounded s) (hpc : s.pc.toNat ≤ 0x1000) {i : Instr}
    (h : exec i s = .next t) : PcBounded t := by
  have hw := exec_writesWithin h
  cases i with
  | jp nnn =>
    cases h
    exact hs.setPc ((target_le nnn).trans (by decide))
  | jpV0 nnn =>
    cases h
    have := target_le nnn
    have := (s.getV 0).isLt
    exact hs.setPc (by omega)
  | call nnn =>
    simp only [Machine.exec, execCall] at h
    split at h <;> cases h
    · next u hp => exact (hs.push hpc hp).setPc ((target_le nnn).trans (by decide))
    · exact hs.raise _ _ _ _
  | ret =>
    simp only [Machine.exec, execRet] at h
    split at h <;> cases h
    · next v u hp =>
      obtain ⟨hv, hu⟩ := hs.pop hp
      exact hu.setPc (hv.trans (by decide))
    · exact hs.raise _ _ _ _
  | seImm x kk | sneImm x kk | seReg x y | sneReg x y =>
    cases h
    exact hs.skipIf hpc _
  | skp x | sknp x =>
    cases h
    exact PcBounded.skipIf (s := s.sampleKey.2) hs hpc _
  | _ =>
    exact hs.of_kept (hw.kept (p := .pc) (by simp [MayWrite, Instr.writesPc]))
      (hw.kept (p := .slots) (by simp [MayWrite]))

/-- The advance of a fetch that is in range leaves pc at most 0x1000 (R66, R67). -/
theorem advancePc_pc_le (h : s.fetchInRange = true) : s.advancePc.pc.toNat ≤ 0x1000 := by
  have hpc : s.pc.toNat + 1 ≤ 0xFFF := of_decide_eq_true h
  exact (Nat.mod_le _ _).trans (by omega)

theorem PcBounded.fetchExecute (hs : PcBounded s) (h : fetchExecute s = .next t) :
    PcBounded t := by
  have hadv (hr : s.fetchInRange = true) : PcBounded s.advancePc :=
    ⟨(advancePc_pc_le hr).trans (by decide), hs.2⟩
  obtain ⟨_, _, -, rfl⟩ | ⟨hr, _, -, rfl⟩ | ⟨hr, rfl⟩ | ⟨hr, i, -, hx⟩ := fetchExecute_cases h
  · exact hs.raise _ _ _ _
  · exact (hadv hr).raise _ _ _ _
  · exact hadv hr
  · exact (hadv hr).exec (advancePc_pc_le hr) hx

theorem PcBounded.cpuTick (hs : PcBounded s) (h : cpuTick s = .next t) : PcBounded t := by
  obtain ⟨-, rfl⟩ | ⟨-, x, -, rfl⟩ | ⟨-, -, hf⟩ := cpuTick_cases h
  · exact hs
  · obtain ⟨f, h | ⟨v, h⟩⟩ := pollKey_cases x s <;> rw [h] <;> exact hs
  · exact hs.fetchExecute hf

theorem PcBounded.timerTick (hs : PcBounded s) : PcBounded (timerTick s) := by
  obtain h | ⟨-, h⟩ := timerTick_cases s <;> rw [h]
  · exact hs
  · rw [State.runTimers_eq]
    exact hs

theorem pcBounded_performReset (s : State) : PcBounded s.performReset := by
  rw [State.performReset_eq]
  exact ⟨show (trunc16 romBase).toNat ≤ 0x10FE by decide, fun k => by simp⟩

theorem PcBounded.hostEffect (hs : PcBounded s) {c : HostCommand} (h : HostEffect s c t) :
    PcBounded t := by
  cases h with
  | reset hr => exact pcBounded_performReset s
  | load _ rom a _ hr _ =>
    rw [State.performLoad_eq hr]
    exact pcBounded_performReset s
  | ignored | start | stop | setSpeed | answers => exact hs

end

/-- Settles O60: each of the three agents keeps the bounds. -/
theorem stepKeepsPcBounded : Obligations.StepKeepsPcBounded := by
  intro s t hs h
  have hev : PcBounded s.nextEvent.2 := hs
  obtain ⟨-, h⟩ | ⟨-, rfl⟩ | ⟨c, -, rfl⟩ := step_cases h
  · exact hev.cpuTick h
  · exact hev.timerTick
  · exact hev.hostEffect (hostCommand_effect c _)

/-- Settles O59: at reset the core is Stopped in mode Exec with an empty memory list, a zero record
and no ROM; pc is 0x200 and every slot 0. -/
theorem invariantsHoldAtReset : Obligations.InvariantsHoldAtReset :=
  ⟨(inv_iff_of_not_faulted (by decide)).2 ⟨rfl, Nat.zero_le _, fun hm => absurd rfl hm, rfl, nofun⟩,
    by decide, by decide⟩

end Sys2Proof.Machine
end

section
/-! SUPPORT. ST beside an instruction: setting ST before and after comes to the same, but for
LD ST, Vx. One rule per operation, then every instruction. -/

namespace Sys2Proof.Machine

/-- The next state of a result, changed by `f`. -/
def mapNext (f : State → State) : Result → Result
  | .next s => .next (f s)
  | .fault r => .fault r
  | .refused r => .refused r

section
variable (s : State) (v : Byte)

theorem raiseIn_setST (cause : FaultCause) (i : Instr) (data : Word) :
    (s.setST v).raiseIn cause i data = (s.raiseIn cause i data).setST v := by
  simp only [State.raiseIn, State.raise_eq]
  rfl

theorem skipIf_setST (c : Bool) : (s.setST v).skipIf c = (s.skipIf c).setST v := by
  simp only [State.skipIf_eq]
  rfl

theorem push_setST (w : Word) : (s.setST v).push w = (s.push w).map (·.setST v) := by
  simp only [State.push, apply_dite (Option.map _)]
  rfl

theorem pop_setST : (s.setST v).pop = s.pop.map fun p => (p.1, p.2.setST v) := by
  simp only [State.pop, apply_dite (Option.map _)]
  rfl

theorem writeLogic_setST (x : Reg) (r : Byte) :
    (s.setST v).writeLogic x r = (s.writeLogic x r).setST v := by
  simp only [State.writeLogic_eq, apply_ite (State.setST · v)]
  rfl

theorem writeRF_setST (x : Reg) (r : Byte) (f : Bool) :
    (s.setST v).writeRF x r f = (s.writeRF x r f).setST v := by
  have hdraw : (s.setST v).drawFlagLast = (s.drawFlagLast.1, s.drawFlagLast.2.setST v) := rfl
  simp only [State.writeRF, State.setST_cfg, hdraw]
  split
  · rfl
  · rfl
  · simp only [apply_ite (State.setST · v)]
    rfl

theorem loadRegs_setST (rs : List Reg) :
    (s.setST v).loadRegs rs = (s.loadRegs rs).setST v := by
  induction rs generalizing s with
  | nil => rfl
  | cons r rest ih => exact ih (s.setV r _)

theorem bumpI_setST (x : Reg) : (s.setST v).bumpI x = (s.bumpI x).setST v := by
  simp only [State.bumpI_eq, apply_ite (State.setST · v)]
  rfl

theorem takeKeyOrWait_setST (x : Reg) :
    (s.setST v).takeKeyOrWait x = (s.takeKeyOrWait x).setST v := by
  have hkey : (s.setST v).sampleKey = (s.sampleKey.1, s.sampleKey.2.setST v) := rfl
  simp only [State.takeKeyOrWait, hkey]
  cases s.sampleKey.1 <;> rfl

/-- An instruction that checks its range first commutes when both its outcomes do. -/
theorem rangeChecked_setST {n : Nat} {i : Instr} {t t' : State} (ht : t' = t.setST v) :
    (if (s.setST v).rangeOk n then (.next t' : Result) else .next ((s.setST v).raiseRange i)) =
      mapNext (·.setST v) (if s.rangeOk n then .next t else .next (s.raiseRange i)) := by
  have hr : (s.setST v).rangeOk n = s.rangeOk n := rfl
  simp only [hr, ht, State.raiseRange, raiseIn_setST, apply_ite (mapNext _)]
  rfl

/-- No instruction but LD ST, Vx meets ST: it does the same beside another value. -/
theorem exec_setST {i : Instr} (hi : ∀ x, i ≠ .ldStVx x) :
    exec i (s.setST v) = mapNext (·.setST v) (exec i s) := by
  cases i with
  | ldStVx x => exact absurd rfl (hi x)
  | seImm x kk | sneImm x kk | seReg x y | sneReg x y =>
    exact congrArg Host.Outcome.next (skipIf_setST s v _)
  | skp x | sknp x => exact congrArg Host.Outcome.next (skipIf_setST s.sampleKey.2 v _)
  | orReg x y | andReg x y | xorReg x y =>
    exact congrArg Host.Outcome.next (writeLogic_setST s v x _)
  | addReg x y | subReg x y | subnReg x y =>
    exact congrArg Host.Outcome.next (writeRF_setST s v x _ _)
  | addImm x kk =>
    simp only [exec, execAddImm, State.setST_cfg, State.setST_getV, writeRF_setST,
      apply_ite (mapNext _)]
    rfl
  | ret =>
    simp only [exec, execRet, pop_setST, raiseIn_setST]
    cases s.pop <;> rfl
  | call nnn =>
    simp only [exec, execCall, State.setST_pc, push_setST, raiseIn_setST]
    cases s.push s.pc <;> rfl
  | ldB x | drw x y n => exact rangeChecked_setST s v rfl
  | ldMemStore x => exact rangeChecked_setST s v (bumpI_setST (s.setMem _) v x)
  | ldMemLoad x =>
    refine rangeChecked_setST s v ?_
    rw [loadRegs_setST, bumpI_setST]
  | ldVxK x => exact congrArg Host.Outcome.next (takeKeyOrWait_setST s v x)
  | _ => rfl

end

/-- Settles O55: LD ST, Vx overwrites ST whatever it held; the others are `exec_setST`. -/
theorem noInstructionReadsST : Obligations.NoInstructionReadsST := by
  intro i s t v h
  split
  · next hi =>
    obtain ⟨x, rfl⟩ := hi
    exact h
  · next hi =>
    rw [exec_setST s v fun x hx => hi ⟨x, hx⟩, h]
    rfl

end Sys2Proof.Machine
end

section
/-! SUPPORT. What `LD [I], Vx` leaves in memory, said once for every x, and the word that a fetch
then sees there. -/

namespace Sys2Proof.Machine

@[simp] theorem State.bumpI_mem (s : State) (x : Reg) : (s.bumpI x).mem = s.mem := by
  rw [State.bumpI_eq]
  split
  · exact State.setI_mem s _
  · rfl

/-- With its whole range in memory, the store of V0..Vx completes (R48, R125). -/
theorem exec_ldMemStore_of_inRange {s : State} {x : Reg} (hr : s.I.toNat + x.val ≤ 0xFFF) :
    exec (.ldMemStore x) s =
      .next ((s.setMem (s.mem.writeBytes (s.effAddr 0) (s.valuesUpTo x))).bumpI x) :=
  if_pos ((s.rangeOk_iff x.val.succ_pos).2 (Nat.succ_le_succ hr))

/-- Every register up to Vx reads back from I plus its index (R49, R125). -/
theorem read_of_exec_ldMemStore {s t : State} {x k : Reg} (hm : s.mem.wf = true)
    (hr : s.I.toNat + x.val ≤ 0xFFF) (h : exec (.ldMemStore x) s = .next t) (hk : k ≤ x) :
    t.mem.read (s.I.toNat + k.val) = s.getV k := by
  obtain rfl := Host.Outcome.next.inj ((exec_ldMemStore_of_inRange hr).symm.trans h)
  have hlen : s.effAddr 0 + (s.valuesUpTo x).length ≤ memSize := by
    rw [State.valuesUpTo_length]
    exact Nat.succ_le_succ hr
  have hin : s.effAddr 0 ≤ s.I.toNat + k.val ∧
      s.I.toNat + k.val < s.effAddr 0 + (s.valuesUpTo x).length := by
    rw [State.valuesUpTo_length]
    exact ⟨Nat.le_add_right _ _, Nat.add_lt_add_left (Nat.lt_succ_of_le hk) _⟩
  rw [State.bumpI_mem, State.setMem_mem, Memory.read_writeBytes hm hlen, if_pos hin,
    show s.I.toNat + k.val - s.effAddr 0 = k.val from Nat.add_sub_cancel_left _ _,
    State.valuesUpTo_getD s hk]

/-- Settles O33: the two bytes of the word at I + k are the stored Vk and V(k + 1). -/
theorem storedWordIsFetched : Obligations.StoredWordIsFetched := by
  intro s t u k hm hk hr h hu hpc
  have hnext : (k + 1).val = k.val + 1 := Fin.val_add_one_of_lt hk
  have hhi : t.mem.read (s.I.toNat + k.val) = s.getV k :=
    read_of_exec_ldMemStore hm hr h hk.le
  have hlo : t.mem.read (s.I.toNat + (k.val + 1)) = s.getV (k + 1) :=
    hnext ▸ read_of_exec_ldMemStore hm hr h (Fin.le_last _)
  rw [wordAtPc, hu, hpc, hhi, Nat.add_assoc, hlo]

end Sys2Proof.Machine
end

section
/-! SUPPORT. The fields of a word (30_encoding.md R61, R62) against the three packings of the
encoder, both ways, and the two round trips of decode and encode. -/

namespace Sys2Proof

/-! ### Fields as arithmetic -/

section
variable (w : Word)

theorem slice_lt (hi lo : Nat) : slice w hi lo < 2 ^ (hi - lo + 1) := Nat.mod_lt _ (by simp)

theorem fieldN3_eq : fieldN3 w = w.toNat / 4096 := Nat.mod_eq_of_lt (by omega)

theorem fieldX_val : (fieldX w).val = w.toNat / 256 % 16 := rfl

theorem fieldY_val : (fieldY w).val = w.toNat / 16 % 16 := rfl

theorem fieldN_val : (fieldN w).val = w.toNat % 16 := by simp [fieldN, slice]

theorem slice_low_byte : slice w 7 0 = w.toNat % 256 := by simp [slice]

theorem slice_eq_fieldKk_toNat : slice w 7 0 = (fieldKk w).toNat := by simp [fieldKk, slice]

theorem fieldNnn_toNat : (fieldNnn w).toNat = w.toNat % 4096 := by simp [fieldNnn, slice]

end

/-! ### Reading the fields of a packed word -/

section
variable {n3 : Nat} (h : n3 < 16)
include h

theorem packAddr_toNat (nnn : Addr) : (packAddr n3 nnn).toNat = n3 * 4096 + nnn.toNat := by
  rw [packAddr, BitVec.toNat_ofNat]
  omega

theorem packByte_toNat (x : Reg) (kk : Byte) :
    (packByte n3 x kk).toNat = n3 * 4096 + x.val * 256 + kk.toNat := by
  rw [packByte, BitVec.toNat_ofNat]
  omega

@[simp] theorem fieldN3_packAddr (nnn : Addr) : fieldN3 (packAddr n3 nnn) = n3 := by
  rw [fieldN3_eq, packAddr_toNat h]
  omega

@[simp] theorem fieldNnn_packAddr (nnn : Addr) : fieldNnn (packAddr n3 nnn) = nnn := by
  apply BitVec.eq_of_toNat_eq
  rw [fieldNnn_toNat, packAddr_toNat h]
  omega

@[simp] theorem fieldN3_packByte (x : Reg) (kk : Byte) : fieldN3 (packByte n3 x kk) = n3 := by
  rw [fieldN3_eq, packByte_toNat h]
  omega

@[simp] theorem fieldX_packByte (x : Reg) (kk : Byte) : fieldX (packByte n3 x kk) = x := by
  apply Fin.ext
  rw [fieldX_val, packByte_toNat h]
  omega

@[simp] theorem slice_packByte (x : Reg) (kk : Byte) :
    slice (packByte n3 x kk) 7 0 = kk.toNat := by
  rw [slice_low_byte, packByte_toNat h]
  omega

@[simp] theorem fieldKk_packByte (x : Reg) (kk : Byte) : fieldKk (packByte n3 x kk) = kk := by
  rw [fieldKk, slice_packByte h, BitVec.ofNat_toNat, BitVec.setWidth_eq]

section
variable {n0 : Nat} (h0 : n0 < 16) (x y : Reg)
include h0

theorem packNibbles_toNat :
    (packNibbles n3 x.val y.val n0).toNat = n3 * 4096 + x.val * 256 + y.val * 16 + n0 := by
  rw [packNibbles, BitVec.toNat_ofNat]
  omega

@[simp] theorem fieldN3_packNibbles : fieldN3 (packNibbles n3 x.val y.val n0) = n3 := by
  rw [fieldN3_eq, packNibbles_toNat h h0]
  omega

@[simp] theorem fieldX_packNibbles : fieldX (packNibbles n3 x.val y.val n0) = x := by
  apply Fin.ext
  rw [fieldX_val, packNibbles_toNat h h0]
  omega

@[simp] theorem fieldY_packNibbles : fieldY (packNibbles n3 x.val y.val n0) = y := by
  apply Fin.ext
  rw [fieldY_val, packNibbles_toNat h h0]
  omega

@[simp] theorem fieldN_packNibbles : fieldN (packNibbles n3 x.val y.val n0) = ⟨n0, h0⟩ := by
  apply Fin.ext
  change _ = n0
  rw [fieldN_val, packNibbles_toNat h h0]
  omega

end

end

/-! ### Packing the fields of a word -/

section
variable {w : Word} {n3 : Nat} (h : fieldN3 w = n3)
include h

theorem packAddr_fields : packAddr n3 (fieldNnn w) = w := by
  rw [fieldN3_eq] at h
  apply BitVec.eq_of_toNat_eq
  rw [packAddr_toNat (by omega), fieldNnn_toNat]
  omega

theorem packByte_fields {kk : Byte} (hk : slice w 7 0 = kk.toNat) :
    packByte n3 (fieldX w) kk = w := by
  rw [fieldN3_eq] at h
  rw [slice_low_byte] at hk
  apply BitVec.eq_of_toNat_eq
  rw [packByte_toNat (by omega), fieldX_val]
  omega

theorem packNibbles_fields {n0 : Nat} (hn : (fieldN w).val = n0) :
    packNibbles n3 (fieldX w).val (fieldY w).val n0 = w := by
  rw [fieldN3_eq] at h
  rw [← hn]
  apply BitVec.eq_of_toNat_eq
  rw [packNibbles_toNat (by omega) (fieldN w).isLt, fieldX_val, fieldY_val, fieldN_val]
  omega

end

/-! ### Bytes -/

/-- The two bytes of a word, high byte first, make up the word (R49). -/
theorem wordOfBytes_slices (w : Word) :
    wordOfBytes (BitVec.ofNat 8 (slice w 15 8)) (BitVec.ofNat 8 (slice w 7 0)) = w := by
  apply BitVec.eq_of_toNat_eq
  simp only [wordOfBytes, slice, BitVec.toNat_ofNat]
  omega

/-- A word that decodes is decoded from its two bytes, whatever follows them (R60). -/
theorem decodeBytes_of_decodeWord {w : Word} {i : Instr} (h : decodeWord w = .ok i)
    (rest : List Byte) : decodeBytes (bytesOfWord w ++ rest) = .ok (i, rest) := by
  simp only [bytesOfWord, List.cons_append, List.nil_append, decodeBytes, wordOfBytes_slices, h]

/-! ### Decode of encode -/

theorem decodeWord_encode_sys {nnn : Addr} (h : (Instr.sys nnn).wellFormed = true) :
    decodeWord (encode (.sys nnn)) = .ok (.sys nnn) := by
  have hne {a : Addr} (ha : nnn ≠ a) : packAddr 0 nnn ≠ packAddr 0 a := fun he =>
    ha (by rw [← fieldNnn_packAddr (n3 := 0) (by decide) nnn, he, fieldNnn_packAddr (by decide)])
  simp only [Instr.wellFormed, Bool.and_eq_true, bne_iff_ne] at h
  have hcls : packAddr 0 nnn ≠ 0x00E0#16 := hne h.1
  have hret : packAddr 0 nnn ≠ 0x00EE#16 := hne h.2
  simp [encode, decodeWord, hcls, hret]

theorem decodeWord_encode {i : Instr} (h : i.wellFormed = true) :
    decodeWord (encode i) = .ok i := by
  cases i with
  | sys nnn => exact decodeWord_encode_sys h
  | cls | ret => rfl
  | ldReg x y | orReg x y | andReg x y | xorReg x y | addReg x y | subReg x y | shr x y
  | subnReg x y | shl x y => simp [encode, decodeWord, decode8]
  | ldVxDt x | ldVxK x | ldDtVx x | ldStVx x | addI x | ldF x | ldB x | ldMemStore x
  | ldMemLoad x => simp [encode, decodeWord, decodeF]
  | _ => simp [encode, decodeWord]

/-- Settles O3, by `decodeWord_encode`: each packing gives back the fields the decoder reads. -/
theorem decodeEncodeRoundTrip : Obligations.DecodeEncodeRoundTrip := fun _ h =>
  ⟨decodeWord_encode h, decodeBytes_of_decodeWord (decodeWord_encode h)⟩

/-! ### Encode of decode -/

/-- The classes of words that R70 lists, by their fields. -/
def UnknownClass (w : Word) : Prop :=
  (fieldN3 w = 0x5 ∧ (fieldN w).val ≠ 0) ∨
  (fieldN3 w = 0x8 ∧ (fieldN w).val ∈ [0x8, 0x9, 0xA, 0xB, 0xC, 0xD, 0xF]) ∨
  (fieldN3 w = 0x9 ∧ (fieldN w).val ≠ 0) ∨
  (fieldN3 w = 0xE ∧ slice w 7 0 ∉ [0x9E, 0xA1]) ∨
  (fieldN3 w = 0xF ∧ slice w 7 0 ∉ [0x07, 0x0A, 0x15, 0x18, 0x1E, 0x29, 0x33, 0x55, 0x65])

/-- What the decoder may answer for `w`: a well-formed instruction whose word is `w`, or the
rejection of a word of one of R70's classes. -/
inductive DecodesTo (w : Word) : Except Reject Instr → Prop
  | ok (i : Instr) (hwf : i.wellFormed = true) (he : encode i = w) : DecodesTo w (.ok i)
  | unknown (h : UnknownClass w) : DecodesTo w (.error (.unknownWord w))

section
variable {w : Word}

theorem decode8_decodesTo (h : fieldN3 w = 0x8) : DecodesTo w (decode8 w) := by
  unfold decode8
  split
  case h_10 =>
    simp only [imp_false] at *
    exact .unknown (.inr (.inl ⟨h, by simp only [List.mem_cons, List.not_mem_nil]; omega⟩))
  all_goals exact .ok _ rfl (packNibbles_fields h ‹_›)

theorem decodeF_decodesTo (h : fieldN3 w = 0xF) : DecodesTo w (decodeF w) := by
  unfold decodeF
  split
  case h_10 =>
    simp only [imp_false] at *
    exact .unknown (.inr (.inr (.inr (.inr ⟨h, by simp [*]⟩))))
  all_goals exact .ok _ rfl (packByte_fields h ‹_›)

theorem wellFormed_sys_fields (h : fieldN3 w = 0) (hcls : w ≠ 0x00E0#16) (hret : w ≠ 0x00EE#16) :
    (Instr.sys (fieldNnn w)).wellFormed = true := by
  have hw : packAddr 0 (fieldNnn w) = w := packAddr_fields h
  simp only [Instr.wellFormed, Bool.and_eq_true, bne_iff_ne]
  exact ⟨fun he => hcls (by rw [← hw, he]; rfl), fun he => hret (by rw [← hw, he]; rfl)⟩

/-- The switch on N3, branch by branch: `h_k` is the branch N3 = k - 1. -/
theorem decodeWord_decodesTo (w : Word) : DecodesTo w (decodeWord w) := by
  unfold decodeWord
  split
  case h_1 h =>
    split_ifs with hcls hret
    · exact .ok _ rfl hcls.symm
    · exact .ok _ rfl hret.symm
    · exact .ok _ (wellFormed_sys_fields h hcls hret) (packAddr_fields h)
  case h_6 h =>
    split_ifs with hn
    · exact .ok _ rfl (packNibbles_fields h (congrArg Fin.val hn))
    · exact .unknown (.inl ⟨h, fun hv => hn (Fin.ext hv)⟩)
  case h_9 h => exact decode8_decodesTo h
  case h_10 h =>
    split_ifs with hn
    · exact .ok _ rfl (packNibbles_fields h (congrArg Fin.val hn))
    · exact .unknown (.inr (.inr (.inl ⟨h, fun hv => hn (Fin.ext hv)⟩)))
  case h_15 h =>
    split_ifs with hskp hsknp
    · exact .ok _ rfl (packByte_fields h hskp)
    · exact .ok _ rfl (packByte_fields h hsknp)
    · exact .unknown (.inr (.inr (.inr (.inl ⟨h, by simp [hskp, hsknp]⟩))))
  case h_16 =>
    have hlt : fieldN3 w < 16 := slice_lt w 15 12
    exact decodeF_decodesTo (by simp only [imp_false] at *; omega)
  case h_2 h | h_3 h | h_11 h | h_12 h => exact .ok _ rfl (packAddr_fields h)
  case h_4 h | h_5 h | h_7 h | h_8 h | h_13 h =>
    exact .ok _ rfl (packByte_fields h (slice_eq_fieldKk_toNat w))
  case h_14 h => exact .ok _ rfl (packNibbles_fields h rfl)

theorem encode_of_decodeWord {i : Instr} (h : decodeWord w = .ok i) :
    i.wellFormed = true ∧ encode i = w := by
  have hd := decodeWord_decodesTo w
  rw [h] at hd
  cases hd with
  | ok _ hwf he => exact ⟨hwf, he⟩

theorem unknownClass_of_decodeWord {r : Reject} (h : decodeWord w = .error r) :
    r = .unknownWord w ∧ UnknownClass w := by
  have hd := decodeWord_decodesTo w
  rw [h] at hd
  cases hd with
  | unknown hu => exact ⟨rfl, hu⟩

end

/-- Settles O4, by `decodeWord_decodesTo`: on every path of the decoder, the nibbles it switched on
and the operands it read pack to the word again. -/
theorem encodeDecodeRoundTrip : Obligations.EncodeDecodeRoundTrip := fun _ _ =>
  encode_of_decodeWord

/-! ### The Unknown words -/

/-- The pattern of every row lies outside the classes of R70. -/
theorem not_unknownClass_encode (i : Instr) : ¬UnknownClass (encode i) := by
  cases i with
  | cls | ret => unfold UnknownClass; decide
  | _ => simp [UnknownClass, encode]

theorem decodeWord_eq_error_iff {w : Word} :
    decodeWord w = .error (.unknownWord w) ↔ UnknownClass w := by
  refine ⟨fun h => (unknownClass_of_decodeWord h).2, fun hu => ?_⟩
  have hd := decodeWord_decodesTo w
  generalize decodeWord w = d at hd ⊢
  cases hd with
  | ok i _ he => exact absurd (he ▸ hu) (not_unknownClass_encode i)
  | unknown _ => rfl

/-- Settles O6, by `decodeWord_eq_error_iff`, with the fields written as quotients and remainders. -/
theorem unknownWordsAreExactly : Obligations.UnknownWordsAreExactly := by
  intro w
  rw [decodeWord_eq_error_iff, UnknownClass, fieldN3_eq, fieldN_val, slice_low_byte]

end Sys2Proof
end

section
/-! SUPPORT. The opcode map of R65 beside the decoder: which row a word matches (R68, R69), and
which rows a word contains (R72, R73). -/

namespace Sys2Proof

/-! ### Matching a row -/

/-- Every instruction's word matches its own row. -/
theorem encode_matches_row (i : Instr) : encode i &&& i.row.2 = i.row.1 := by
  open Laws.EncodeMatches in
  exact Instr.casesOn (motive := Statement) i sys cls ret jp call seImm sneImm seReg ldImm addImm
    ldReg orReg andReg xorReg addReg subReg shr subnReg shl sneReg ldI jpV0 rnd drw skp sknp ldVxDt
    ldVxK ldDtVx ldStVx addI ldF ldB ldMemStore ldMemLoad

theorem slice_and (w v : Word) (hi lo : Nat) :
    slice (w &&& v) hi lo = slice w hi lo &&& slice v hi lo := by
  simp only [slice, BitVec.toNat_and, Nat.and_div_two_pow, Nat.and_mod_two_pow]

/-- A word agrees with the match value it is compared to in every field that the mask covers. -/
theorem slice_eq_of_match {w mask m : Word} (h : w &&& mask = m) (hi lo : Nat)
    (hm : slice mask hi lo = 2 ^ (hi - lo + 1) - 1) : slice w hi lo = slice m hi lo := by
  rw [← h, slice_and, hm, Nat.and_two_pow_sub_one_eq_mod, Nat.mod_eq_of_lt (slice_lt w hi lo)]

/-- The decoder switches on fields that the masks cover: a word that matches a row is decoded to an
instruction of that row, but for the words of CLS and RET, which match SYS too (R68). -/
theorem decodeWord_row_of_match {w : Word} {j : Instr} (h : w &&& j.row.2 = j.row.1) :
    (decodeWord w).map Instr.row = .ok j.row ∨
      (j.row = (Instr.sys 0#12).row ∧ (w = 0x00E0#16 ∨ w = 0x00EE#16)) := by
  cases j with
  | sys nnn =>
    simp only [Instr.row] at h
    by_cases hw : w = 0x00E0#16 ∨ w = 0x00EE#16
    · exact .inr ⟨rfl, hw⟩
    · left
      rw [not_or] at hw
      simp only [decodeWord, fieldN3, slice_eq_of_match h 15 12 rfl, if_neg hw.1, if_neg hw.2]
      rfl
  | cls | ret =>
    left
    obtain rfl := (BitVec.and_allOnes (x := w)).symm.trans h
    rfl
  | jp nnn | call nnn | ldI nnn | jpV0 nnn | seImm x kk | sneImm x kk | ldImm x kk | addImm x kk
  | rnd x kk | drw x y n =>
    simp only [Instr.row] at h
    left
    rw [decodeWord, fieldN3, slice_eq_of_match h 15 12 rfl]
    rfl
  | seReg x y | sneReg x y =>
    simp only [Instr.row] at h
    left
    have hN : fieldN w = 0 := Fin.ext (slice_eq_of_match h 3 0 rfl)
    simp only [decodeWord, fieldN3, slice_eq_of_match h 15 12 rfl, if_pos hN]
    rfl
  | ldReg x y | orReg x y | andReg x y | xorReg x y | addReg x y | subReg x y | shr x y
  | subnReg x y | shl x y =>
    simp only [Instr.row] at h
    left
    have hN : (fieldN w).val = _ := slice_eq_of_match h 3 0 rfl
    rw [decodeWord, fieldN3, slice_eq_of_match h 15 12 rfl, decode8, hN]
    rfl
  | skp x | sknp x =>
    simp only [Instr.row] at h
    left
    rw [decodeWord, fieldN3, slice_eq_of_match h 15 12 rfl, slice_eq_of_match h 7 0 rfl]
    rfl
  | ldVxDt x | ldVxK x | ldDtVx x | ldStVx x | addI x | ldF x | ldB x
  | ldMemStore x | ldMemLoad x =>
    simp only [Instr.row] at h
    left
    rw [decodeWord, fieldN3, slice_eq_of_match h 15 12 rfl, decodeF, slice_eq_of_match h 7 0 rfl]
    rfl

theorem row_of_match {w : Word} {i j : Instr} (hd : decodeWord w = .ok i)
    (hj : w &&& j.row.2 = j.row.1) :
    j.row = i.row ∨ (j.row = (Instr.sys 0#12).row ∧ (w = 0x00E0#16 ∨ w = 0x00EE#16)) := by
  refine (decodeWord_row_of_match hj).imp_left fun h => ?_
  rw [hd] at h
  exact (Except.ok.inj h).symm

theorem matches_row_of_decodeWord {w : Word} {i : Instr} (h : decodeWord w = .ok i) :
    w &&& i.row.2 = i.row.1 := by
  obtain ⟨-, rfl⟩ := encode_of_decodeWord h
  exact encode_matches_row i

/-- A word that matches a row decodes. -/
theorem decodeWord_ne_error_of_match {w : Word} {j : Instr} {r : Reject}
    (hj : w &&& j.row.2 = j.row.1) : decodeWord w ≠ .error r := by
  intro he
  obtain h | ⟨-, rfl | rfl⟩ := decodeWord_row_of_match hj
  · rw [he] at h
    cases h
  · cases he
  · cases he

/-- Settles O5: `row_of_match` gives uniqueness, `decodeWord_ne_error_of_match` that only words
without a row are rejected. -/
theorem decodeFindsTheUniqueRow : Obligations.DecodeFindsTheUniqueRow := by
  refine ⟨fun w i h => ⟨matches_row_of_decodeWord h, fun j => row_of_match h⟩, fun w hn => ?_,
    fun w r h => ⟨(unknownClass_of_decodeWord h).1, fun j hj => decodeWord_ne_error_of_match hj h⟩⟩
  cases hd : decodeWord w with
  | ok i => exact absurd (matches_row_of_decodeWord hd) (hn i)
  | error r => rw [(unknownClass_of_decodeWord hd).1]

/-! ### Containing a match value -/

/-- One instruction of each row other than SYS, in the table's order. -/
def rowInstrs : List Instr :=
  [.cls, .ret, .jp 0, .call 0, .seImm 0 0, .sneImm 0 0, .seReg 0 0, .ldImm 0 0, .addImm 0 0,
    .ldReg 0 0, .orReg 0 0, .andReg 0 0, .xorReg 0 0, .addReg 0 0, .subReg 0 0, .shr 0 0,
    .subnReg 0 0, .shl 0 0, .sneReg 0 0, .ldI 0, .jpV0 0, .rnd 0 0, .drw 0 0 0, .skp 0, .sknp 0,
    .ldVxDt 0, .ldVxK 0, .ldDtVx 0, .ldStVx 0, .addI 0, .ldF 0, .ldB 0, .ldMemStore 0,
    .ldMemLoad 0]

theorem rowMatches_eq : rowMatches = rowInstrs.map (·.row.1) := by decide

theorem row_eq_sys_iff {i : Instr} : i.row = (Instr.sys 0#12).row ↔ ∃ nnn, i = .sys nnn := by
  cases i <;> simp [Instr.row]

theorem mem_rowMatches {m : Word} :
    m ∈ rowMatches ↔ ∃ j : Instr, j.row ≠ (Instr.sys 0#12).row ∧ j.row.1 = m := by
  constructor
  · rw [rowMatches_eq, List.mem_map]
    rintro ⟨j, hj, rfl⟩
    have hne : ∀ j ∈ rowInstrs, j.row ≠ (Instr.sys 0#12).row := by decide
    exact ⟨j, hne j hj, rfl⟩
  · rintro ⟨j, hj, rfl⟩
    cases j with
    | sys nnn => exact absurd rfl hj
    | _ => simp only [Instr.row]; decide

theorem contains_iff {w m : Word} : contains w m = true ↔ w &&& m = m := beq_iff_eq

/-- For SYS and the Unknown words, any contained match value makes the word aliased (R73). -/
theorem any_contains_iff {w : Word} : rowMatches.any (contains w) = true ↔
    ∃ j : Instr, j.row ≠ (Instr.sys 0#12).row ∧ w &&& j.row.1 = j.row.1 := by
  simp only [List.any_eq_true, contains_iff, mem_rowMatches]
  exact ⟨fun ⟨_, ⟨j, hj, rfl⟩, hw⟩ => ⟨j, hj, hw⟩, fun ⟨j, hj, hw⟩ => ⟨_, ⟨j, hj, rfl⟩, hw⟩⟩

theorem aliased_of_sys {w : Word} {nnn : Addr} (h : decodeWord w = .ok (.sys nnn)) :
    aliased w = rowMatches.any (contains w) := by
  simp only [aliased, h]

theorem aliased_of_error {w : Word} {r : Reject} (h : decodeWord w = .error r) :
    aliased w = rowMatches.any (contains w) := by
  simp only [aliased, h]

theorem aliased_of_not_sys {w : Word} {i : Instr} (h : decodeWord w = .ok i)
    (hi : i.row ≠ (Instr.sys 0#12).row) : aliased w =
      rowMatches.any fun m => contains w m && (m &&& ~~~i.row.1) != 0#16 := by
  simp only [aliased, h]
  split
  · next heq => cases heq; exact absurd rfl hi
  · next heq => cases heq
  · next heq => cases heq; rfl

/-- For another instruction a contained match value counts only with a bit beyond its own row's,
which excludes its own row (R73). -/
theorem aliased_iff_of_not_sys {w : Word} {i : Instr} (h : decodeWord w = .ok i)
    (hi : i.row ≠ (Instr.sys 0#12).row) : aliased w = true ↔
      ∃ j : Instr, j.row ≠ (Instr.sys 0#12).row ∧ j.row ≠ i.row ∧
        w &&& j.row.1 = j.row.1 ∧ j.row.1 &&& ~~~i.row.1 ≠ 0#16 := by
  simp only [aliased_of_not_sys h hi, List.any_eq_true, Bool.and_eq_true, contains_iff,
    bne_iff_ne, mem_rowMatches]
  constructor
  · rintro ⟨_, ⟨j, hj, rfl⟩, hw, hbits⟩
    exact ⟨j, hj, fun he => hbits (he ▸ BitVec.and_not_self i.row.1), hw, hbits⟩
  · rintro ⟨j, hj, -, hw, hbits⟩
    exact ⟨_, ⟨j, hj, rfl⟩, hw, hbits⟩

/-- Settles O7, by the three answers of the decoder that R73 tells apart. -/
theorem aliasedWordsAreExactly : Obligations.AliasedWordsAreExactly := by
  intro w
  cases hd : decodeWord w with
  | error r =>
    obtain ⟨rfl, -⟩ := unknownClass_of_decodeWord hd
    rw [aliased_of_error hd, any_contains_iff]
    simp
  | ok i =>
    by_cases hi : i.row = (Instr.sys 0#12).row
    · obtain ⟨nnn, rfl⟩ := row_eq_sys_iff.1 hi
      rw [aliased_of_sys hd, any_contains_iff]
      simp [hi]
    · have hsys : ¬∃ nnn, i = .sys nnn := mt row_eq_sys_iff.2 hi
      rw [aliased_iff_of_not_sys hd hi]
      simp [hi, hsys]

/-- Settles O2, by running the decoder on each word. -/
theorem decodeWordsOfEveryFamily : Obligations.DecodeWordsOfEveryFamily := by
  unfold Obligations.DecodeWordsOfEveryFamily
  decide

end Sys2Proof
end

section
/-! SUPPORT. The CPU tick of Running in mode Exec (30_encoding.md R66 to R73). -/

namespace Sys2Proof.Machine

theorem cpuTick_of_exec {s : State} (hr : s.run = .running) (hm : s.cpuMode = .exec) :
    cpuTick s = fetchExecute s := by
  simp only [cpuTick, hr, hm]

theorem step_of_exec {s : State} (he : s.nextEvent.1 = .cpuTick) (hr : s.run = .running)
    (hm : s.cpuMode = .exec) : step s = fetchExecute s.nextEvent.2 :=
  (step_of_cpuTick he).trans (cpuTick_of_exec hr hm)

theorem State.oddPcFaults_iff {s : State} :
    s.oddPcFaults = true ↔ s.cfg.faultOnOddPc = true ∧ s.pc.toNat % 2 = 1 := by
  simp only [State.oddPcFaults, Bool.and_eq_true, decide_eq_true_eq]

theorem State.fetchInRange_iff {s : State} : s.fetchInRange = true ↔ s.pc.toNat + 1 ≤ 0xFFF :=
  decide_eq_true_iff

section
variable {s : State}

/-- The fetch that FAULT_ON_ODD_PC forbids (R66). -/
theorem fetchExecute_of_odd (h : s.cfg.faultOnOddPc = true ∧ s.pc.toNat % 2 = 1) :
    fetchExecute s = .next (s.raise .misalignedPc s.pc 0#16 0#16) :=
  if_pos (State.oddPcFaults_iff.2 h)

/-- The fetch beyond the end of memory (R48, R66). -/
theorem fetchExecute_of_outOfRange (hodd : ¬(s.cfg.faultOnOddPc = true ∧ s.pc.toNat % 2 = 1))
    (h : 0xFFF < s.pc.toNat + 1) :
    fetchExecute s = .next (s.raise .memoryOutOfRange s.pc 0#16 (fetchFaultData s.pc)) :=
  (if_neg (mt State.oddPcFaults_iff.1 hodd)).trans
    (if_neg (mt State.fetchInRange_iff.1 (Nat.not_le.2 h)))

/-- The fetch that is possible (R66, R67). -/
theorem fetchExecute_of_inRange (hodd : ¬(s.cfg.faultOnOddPc = true ∧ s.pc.toNat % 2 = 1))
    (h : s.pc.toNat + 1 ≤ 0xFFF) :
    fetchExecute s = decodeExecute s.pc (wordAtPc s) s.advancePc :=
  (if_neg (mt State.oddPcFaults_iff.1 hodd)).trans (if_pos (State.fetchInRange_iff.2 h))

variable {A w : Word}

theorem decodeExecute_of_aliasRefused (h : AliasRefused s w) :
    decodeExecute A w s = .next (s.raise .aliasedOpcode A w 0#16) := if_pos h

theorem decodeExecute_of_ok (h : ¬AliasRefused s w) {i : Instr} (hd : decodeWord w = .ok i) :
    decodeExecute A w s = exec i s :=
  (if_neg h).trans (by simp only [hd])

theorem decodeExecute_of_error (h : ¬AliasRefused s w) {r : Reject}
    (hd : decodeWord w = .error r) : decodeExecute A w s = .next (unknownWord A w s) :=
  (if_neg h).trans (by simp only [hd])

theorem unknownWord_of_fault (h : s.cfg.unknownOpcode = .fault) :
    unknownWord A w s = s.raise .unknownOpcode A w 0#16 := by
  simp only [unknownWord, h]

theorem unknownWord_of_nop (h : s.cfg.unknownOpcode = .nop) : unknownWord A w s = s := by
  simp only [unknownWord, h]

/-- A step that fetches runs the word at pc on the state with the event taken and pc advanced. -/
theorem step_of_fetches (h : Fetches s) :
    step s = decodeExecute s.pc (wordAtPc s) (s.nextEvent.2.setPc (s.pc.toNat + 2)) := by
  obtain ⟨he, hr, hm, hodd, hrange⟩ := h
  exact (step_of_exec he hr hm).trans (fetchExecute_of_inRange (s := s.nextEvent.2) hodd hrange)

end

/-- Settles O8, by `step_of_fetches`; DECODE_MODE is the same before and after the advance. -/
theorem stepRunsTheDecodedInstruction : Obligations.StepRunsTheDecodedInstruction := by
  intro s i hf hd hna
  have hna' : ¬AliasRefused (s.nextEvent.2.setPc (s.pc.toNat + 2)) (wordAtPc s) := hna
  exact (step_of_fetches hf).trans (decodeExecute_of_ok hna' hd)

/-- Settles O9: the two tests of the fetch, in their order, before anything is written. -/
theorem fetchFaults : Obligations.FetchFaults := by
  intro s he hr hm
  have hpc : s.nextEvent.2.pc = s.pc := rfl
  rw [step_of_exec he hr hm]
  refine ⟨fun hodd => ?_, fun hodd hrange => ?_⟩
  · rw [fetchExecute_of_odd (s := s.nextEvent.2) hodd, hpc]
    exact ⟨_, rfl, State.raise_faultedFrom _ _ _ _ _⟩
  · rw [fetchExecute_of_outOfRange (s := s.nextEvent.2) hodd hrange, hpc]
    exact ⟨_, rfl, State.raise_faultedFrom _ _ _ _ _⟩

/-- Settles O10: the test of R73 comes before the decoder and after the advance. -/
theorem aliasedWordFaults : Obligations.AliasedWordFaults := fun _ hf ha =>
  ⟨_, (step_of_fetches hf).trans (decodeExecute_of_aliasRefused ha),
    State.raise_faultedFrom _ _ _ _ _⟩

/-- Settles O11, by the two values of UNKNOWN_OPCODE. -/
theorem unknownWordFaultsOrDoesNothing : Obligations.UnknownWordFaultsOrDoesNothing := by
  intro s r hf hd hna
  have hstep := (step_of_fetches hf).trans (decodeExecute_of_error hna hd)
  refine ⟨fun hp => ⟨_, hstep.trans (congrArg _ (unknownWord_of_fault hp)), ?_⟩, fun hp => ?_⟩
  · exact State.raise_faultedFrom _ _ _ _ _
  · exact hstep.trans (congrArg _ (unknownWord_of_nop hp))

end Sys2Proof.Machine
end

section
/-! SUPPORT. What SYS, the jumps, CALL and RET do, one equation per outcome
(40_control_transfer.md R80 to R85), and the address and word of a fault they raise. -/

namespace Sys2Proof.Machine

/-! ### Words and faults of an executing instruction -/

/-- A well-formed instruction is encoded by its word, however the word is written. -/
theorem encodes_of_encode_eq {i : Instr} {w : Nat} (hi : i.wellFormed = true)
    (hw : encode i = BitVec.ofNat 16 w) : Encodes i w := by
  rw [Encodes, ← hw]
  exact decodeWord_encode hi

theorem encode_sys (nnn : Addr) : encode (.sys nnn) = BitVec.ofNat 16 nnn.toNat := by
  simp [encode, packAddr]

/-- With pc at A + 2, a fault of the executing instruction records A and the instruction's word
(R151, R153). -/
theorem raiseIn_faultedFrom {s : State} {A : Word} (hpc : s.pc = A + 2#16) (cause : FaultCause)
    (i : Instr) (data : Word) :
    FaultedFrom s (s.raiseIn cause i data) ⟨cause, A, encode i, data⟩ := by
  have hA : s.insnAddr = A := by rw [State.insnAddr, hpc, BitVec.add_sub_cancel]
  rw [State.raiseIn, hA]
  exact State.raise_faultedFrom _ _ _ _ _

/-! ### Frames -/

/-- What CALL and RET keep: everything but pc, sp and the stack slots. -/
def WritesOnlyPcAndStack (s t : State) : Prop :=
  KeepsRegsExcept [] s t ∧ t.I = s.I ∧ KeepsMem s t ∧ KeepsTimers s t ∧ KeepsControl s t ∧
    t.orders = s.orders ∧ KeepsPorts s t ∧ KeepsInputs s t

section
variable (s : State)

theorem writesOnlyPc_setPc (n : Nat) : WritesOnlyPc s (s.setPc n) :=
  ⟨fun _ _ => rfl, rfl,
    ⟨fun _ => rfl, ⟨rfl, rfl⟩, ⟨rfl, rfl⟩, ⟨rfl, rfl, rfl, rfl, rfl, rfl⟩, rfl⟩,
    ⟨rfl, rfl⟩, ⟨rfl, rfl, rfl⟩⟩

/-- A jump after a write of sp and the slots. -/
theorem writesOnlyPcAndStack_setPc (k : Fin 17) (S : Vector Word 16) (n : Nat) :
    WritesOnlyPcAndStack s (((s.setSp k).setS S).setPc n) :=
  ⟨fun _ _ => rfl, rfl, fun _ => rfl, ⟨rfl, rfl⟩, ⟨rfl, rfl, rfl, rfl, rfl, rfl⟩, rfl, ⟨rfl, rfl⟩,
    ⟨rfl, rfl, rfl⟩⟩

/-! ### pc after a jump -/

theorem setPc_pc_toNat (n : Nat) : (s.setPc n).pc.toNat = n % 65536 := BitVec.toNat_ofNat n 16

/-- An address operand fits in pc, so a jump to it loses nothing (R63). -/
theorem setPc_target_pc_toNat (nnn : Addr) : (s.setPc (target nnn)).pc.toNat = nnn.toNat := by
  rw [setPc_pc_toNat, target]
  omega

theorem setPc_toNat_pc (w : Word) : (s.setPc w.toNat).pc = w := by
  simp

end

/-! ### CALL and RET, one equation per outcome -/

section
variable {s : State}

theorem exec_call_of_lt (nnn : Addr) (h : s.sp.val < 16) :
    exec (.call nnn) s = .next (((s.setSp ⟨s.sp.val + 1, Nat.succ_lt_succ h⟩).setS
      (s.S.set s.sp.val s.pc h)).setPc (target nnn)) := by
  simp only [exec, execCall]
  split
  · next u hp =>
    obtain ⟨-, rfl⟩ := State.push_spec hp
    rfl
  · next hp => exact absurd (State.push_eq_none_iff.1 hp) h.ne

theorem exec_call_of_full (nnn : Addr) (h : s.sp.val = 16) :
    exec (.call nnn) s = .next (s.raiseIn .stackOverflow (.call nnn) 0#16) := by
  simp only [exec, execCall, State.push_eq_none_iff.2 h]

theorem exec_ret_of_succ {k : Nat} (hk : k < 16) (h : s.sp.val = k + 1) :
    exec .ret s = .next ((s.setSp ⟨k, by omega⟩).setPc s.S[k].toNat) := by
  simp only [exec, execRet]
  split
  · next v u hp =>
    obtain ⟨-, -, rfl, rfl⟩ := State.pop_spec hp
    simp only [h, Nat.add_sub_cancel]
  · next hp =>
    have := State.pop_eq_none_iff.1 hp
    omega

theorem exec_ret_of_empty (h : s.sp.val = 0) :
    exec .ret s = .next (s.raiseIn .stackUnderflow .ret 0#16) := by
  simp only [exec, execRet, State.pop_eq_none_iff.2 h]

end

/-! ### The statements -/

/-- Settles O13, by the two outcomes of Push (R30). -/
theorem callPushesOrOverflows : Obligations.CallPushesOrOverflows := by
  intro nnn s A hpc
  refine ⟨encodes_of_encode_eq rfl rfl, fun h => ?_, fun h => ?_⟩
  · exact ⟨_, exec_call_of_lt nnn h, setPc_target_pc_toNat _ nnn, rfl, Vector.getElem_set_self h,
      fun k hk => Vector.getElem_set_ne h k.isLt hk.symm, writesOnlyPcAndStack_setPc _ _ _ _⟩
  · exact ⟨_, exec_call_of_full nnn h, raiseIn_faultedFrom hpc _ _ _⟩

/-- Settles O14, by the two outcomes of Pop (R31). -/
theorem retPopsOrUnderflows : Obligations.RetPopsOrUnderflows := by
  intro s A hpc
  refine ⟨encodes_of_encode_eq rfl rfl, fun k hk h => ?_, fun h => ?_⟩
  · exact ⟨_, exec_ret_of_succ hk h, setPc_toNat_pc _ _, rfl, rfl,
      writesOnlyPcAndStack_setPc s ⟨k, by omega⟩ s.S _⟩
  · exact ⟨_, exec_ret_of_empty h, raiseIn_faultedFrom hpc _ _ _⟩

/-- Settles O15: RET pops the slot at the caller's sp, which holds what CALL pushed there. -/
theorem callThenRetReturns : Obligations.CallThenRetReturns := by
  intro nnn s h
  refine ⟨_, exec_call_of_lt nnn h, fun u hsp hslot => ?_⟩
  have hret : u.S[s.sp.val] = s.pc := hslot.trans (Vector.getElem_set_self h)
  exact ⟨_, exec_ret_of_succ h (congrArg Fin.val hsp), (setPc_toNat_pc _ _).trans hret, rfl⟩

/-- Settles O16: only CALL writes a slot, the one at sp, and only CALL and RET write sp. -/
theorem liveFramesAreKept : Obligations.LiveFramesAreKept := by
  intro i s t h
  by_cases hi : ∃ nnn, i = .call nnn
  · obtain ⟨nnn, rfl⟩ := hi
    obtain hlt | hfull := (Nat.le_of_lt_succ s.sp.isLt).lt_or_eq
    · cases (exec_call_of_lt nnn hlt).symm.trans h
      exact ⟨fun k hk => Vector.getElem_set_ne hlt k.isLt hk.ne', fun _ => Nat.le_succ _⟩
    · cases (exec_call_of_full nnn hfull).symm.trans h
      rw [State.raiseIn, State.raise_eq]
      exact ⟨fun _ _ => rfl, fun _ => le_rfl⟩
  · have hw := exec_writesWithin h
    have hS : t.S = s.S := hw.kept (p := .slots) hi
    have hsp (hr : i ≠ .ret) : t.sp = s.sp := hw.kept (p := .sp) (not_or.2 ⟨hr, hi⟩)
    exact ⟨fun k _ => by rw [hS], fun hr => (hsp hr).ge⟩

/-- Settles O12: each of the three writes pc at most, and the sum of JP V0 is cut to 16 bits only
(R84). -/
theorem sysAndJumps : Obligations.SysAndJumps := by
  intro nnn s
  refine ⟨fun hcls hret => ?_, rfl, encodes_of_encode_eq rfl rfl, encodes_of_encode_eq rfl rfl,
    ⟨_, rfl, setPc_target_pc_toNat s nnn, writesOnlyPc_setPc s _⟩,
    ⟨_, rfl, setPc_pc_toNat s _, writesOnlyPc_setPc s _⟩⟩
  have hwf : (Instr.sys nnn).wellFormed = true := by simp [Instr.wellFormed, hcls, hret]
  exact encodes_of_encode_eq hwf (encode_sys nnn)

end Sys2Proof.Machine
end

section
/-! SUPPORT. What a skip does to pc and what it keeps, said once for the four conditional skips and
the two key skips (41_skips.md R90 to R96). -/

namespace Sys2Proof.Machine

/-! ### A skip -/

section
variable (s : State) {c : Bool}

/-- A taken skip adds 2 to pc (R96). -/
theorem skipIf_pc_of_true (h : c = true) : (s.skipIf c).pc = s.pc + 2#16 := by
  rw [State.skipIf, if_pos h, State.advancePc_eq, State.setPc_pc, trunc16, BitVec.ofNat_add,
    BitVec.ofNat_toNat, BitVec.setWidth_eq]

/-- A skip that is not taken leaves pc where the advance of R67 put it. -/
theorem skipIf_pc_of_false (h : c = false) : (s.skipIf c).pc = s.pc := by
  rw [State.skipIf, h, if_neg Bool.false_ne_true]

theorem writesOnlyPc_skipIf (c : Bool) : WritesOnlyPc s (s.skipIf c) := by
  rw [State.skipIf_eq]
  exact writesOnlyPc_setPc s _

/-- A skip on equality (R90, R92). -/
theorem skipIf_beq (a b : Byte) : WritesOnlyPc s (s.skipIf (a == b)) ∧
    (a = b → (s.skipIf (a == b)).pc = s.pc + 2#16) ∧ (a ≠ b → (s.skipIf (a == b)).pc = s.pc) :=
  ⟨writesOnlyPc_skipIf s _, fun heq => skipIf_pc_of_true s (beq_iff_eq.2 heq),
    fun hne => skipIf_pc_of_false s (beq_eq_false_iff_ne.2 hne)⟩

/-- A skip on difference (R91, R93). -/
theorem skipIf_bne (a b : Byte) : WritesOnlyPc s (s.skipIf (a != b)) ∧
    (a ≠ b → (s.skipIf (a != b)).pc = s.pc + 2#16) ∧ (a = b → (s.skipIf (a != b)).pc = s.pc) :=
  ⟨writesOnlyPc_skipIf s _, fun hne => skipIf_pc_of_true s (bne_iff_ne.2 hne),
    fun heq => skipIf_pc_of_false s (bne_eq_false_iff_eq.2 heq)⟩

/-- What a key skip keeps: everything but pc and the input port's feed. -/
theorem sampleKey_skipIf_frame (c : Bool) :
    KeepsRegsExcept [] s (s.sampleKey.2.skipIf c) ∧ (s.sampleKey.2.skipIf c).I = s.I ∧
      KeepsCore s (s.sampleKey.2.skipIf c) ∧ KeepsPorts s (s.sampleKey.2.skipIf c) ∧
      TakesOneKey s (s.sampleKey.2.skipIf c) :=
  writesOnlyPc_skipIf s.sampleKey.2 c

end

/-! ### A word with a fixed low byte, and a sample against a key code -/

/-- A word of format `x_sub` is its fixed bits plus the register field (R64). -/
theorem packByte_eq_fixed_add_x (n3 : Nat) (x : Reg) (kk : Byte) :
    packByte n3 x kk = BitVec.ofNat 16 (n3 * 4096 + kk.toNat + x.val * 256) := by
  rw [packByte, Nat.add_right_comm]

section
variable {k : Option Key} {v : Byte}

theorem keyMatches_eq_true_iff :
    keyMatches k v = true ↔ ∃ c : Key, k = some c ∧ c.val = v.toNat := by
  cases k <;> simp [keyMatches]

theorem keyMatches_eq_false_iff :
    keyMatches k v = false ↔ ∀ c : Key, k = some c → c.val ≠ v.toNat := by
  cases k <;> simp [keyMatches]

end

/-! ### The statements -/

/-- Settles O17, by the two skips on a comparison. -/
theorem skipsOnImmediate : Obligations.SkipsOnImmediate := fun _ _ s =>
  ⟨encodes_of_encode_eq rfl rfl, encodes_of_encode_eq rfl rfl,
    ⟨_, rfl, skipIf_beq s _ _⟩, ⟨_, rfl, skipIf_bne s _ _⟩⟩

/-- Settles O18, by the two skips on a comparison. -/
theorem skipsOnRegister : Obligations.SkipsOnRegister := fun _ _ s =>
  ⟨encodes_of_encode_eq rfl rfl, encodes_of_encode_eq rfl rfl,
    ⟨_, rfl, skipIf_beq s _ _⟩, ⟨_, rfl, skipIf_bne s _ _⟩⟩

/-- Settles O19: the one sample comes before the skip, and matches exactly the key with code Vx. -/
theorem skipsOnKey : Obligations.SkipsOnKey := by
  intro x s
  refine ⟨encodes_of_encode_eq rfl (packByte_eq_fixed_add_x 0xE x 0x9E#8),
    encodes_of_encode_eq rfl (packByte_eq_fixed_add_x 0xE x 0xA1#8), ?skp, ?sknp⟩
  case skp =>
    exact ⟨_, rfl, fun hkey => skipIf_pc_of_true _ (keyMatches_eq_true_iff.2 hkey),
      fun hno => skipIf_pc_of_false _ (keyMatches_eq_false_iff.2 hno),
      sampleKey_skipIf_frame s _⟩
  case sknp =>
    exact ⟨_, rfl, fun hkey => skipIf_pc_of_false _ (congrArg (!·) (keyMatches_eq_true_iff.2 hkey)),
      fun hno => skipIf_pc_of_true _ (congrArg (!·) (keyMatches_eq_false_iff.2 hno)),
      sampleKey_skipIf_frame s _⟩

end Sys2Proof.Machine
end

section
/-! SUPPORT. Register writes with their frame, the result-and-flag write of R101 and the shifts of
R111 and R112 said once each, and the statements of 42_alu.md from them. -/

namespace Sys2Proof.Machine

/-! ### The word of a two-register instruction -/

/-- A word of format `x_y_sub` is its fixed bits plus the two register fields (R64). -/
theorem packNibbles_eq_fixed_add_xy (n3 n0 : Nat) (x y : Reg) :
    packNibbles n3 x.val y.val n0 =
      BitVec.ofNat 16 (n3 * 4096 + n0 + x.val * 256 + y.val * 16) :=
  congrArg (BitVec.ofNat 16) (by omega)

/-! ### Frames -/

section
variable {rs : List Reg} {s t : State}

theorem WritesOnlyRegs.refl (rs : List Reg) (s : State) : WritesOnlyRegs rs s s :=
  ⟨fun _ _ => rfl, rfl, rfl,
    ⟨fun _ => rfl, ⟨rfl, rfl⟩, ⟨rfl, rfl⟩, ⟨rfl, rfl, rfl, rfl, rfl, rfl⟩, rfl⟩,
    ⟨rfl, rfl⟩, ⟨rfl, rfl, rfl⟩⟩

/-- One more write of a listed register. -/
theorem WritesOnlyRegs.setV (h : WritesOnlyRegs rs s t) {x : Reg} (hx : x ∈ rs) (v : Byte) :
    WritesOnlyRegs rs s (t.setV x v) := by
  obtain ⟨hregs, hrest⟩ := h
  refine ⟨fun r hr => ?_, hrest⟩
  have hne : r ≠ x := fun he => hr (he ▸ hx)
  rw [State.setV_getV_ne t v hne]
  exact hregs r hr

theorem writesOnlyRegs_setV (s : State) (x : Reg) (v : Byte) :
    WritesOnlyRegs [x] s (s.setV x v) :=
  (WritesOnlyRegs.refl [x] s).setV (.head _) v

/-- The flag-order choices move beside the register writes, in mode `either` only (R101). -/
theorem WritesOnlyRegs.andChoice {o : Feed Bool} (h : WritesOnlyRegs rs (s.setOrders o) t)
    (ho : s.cfg.vfOrder ≠ .either → o = s.orders) : WritesOnlyRegsAndChoice rs s t := by
  obtain ⟨hregs, hI, hpc, ⟨hmem, hstack, htimers, hcontrol, horders⟩, hports, hinputs⟩ := h
  exact ⟨hregs, hI, hpc, hmem, hstack, htimers, hcontrol, hports, hinputs,
    fun hn => horders.trans (ho hn)⟩

end

/-! ### The result-and-flag write and the logic result -/

section
variable (s : State) (x : Reg) (r : Byte)

/-- WriteRF in its two orders: whichever of the two writes comes second stands in VF when x = 15
(R101). -/
theorem writesResultAndFlag_writeRF (f : Bool) :
    WritesResultAndFlag x r f s (s.writeRF x r f) := by
  obtain ⟨hord, o, ho, h⟩ | ⟨hord, o, ho, h⟩ := s.writeRF_cases x r f <;> rw [h]
  · have hflag := State.setV_getV_same ((s.setOrders o).setV x r) VF (b2i f)
    refine ⟨fun hx => ⟨?_, hflag⟩,
      fun _ => ⟨fun _ => hflag, fun hr => absurd hr hord, fun _ => .inl hflag⟩,
      (((WritesOnlyRegs.refl _ _).setV (.head _) r).setV (.tail _ (.head _)) _).andChoice ho⟩
    rw [State.setV_getV_ne _ _ hx, State.setV_getV_same]
  · have hres := State.setV_getV_same ((s.setOrders o).setV VF (b2i f)) x r
    refine ⟨fun hx => ⟨hres, ?_⟩, fun hx => ?_,
      (((WritesOnlyRegs.refl _ _).setV (.tail _ (.head _)) _).setV (.head _) r).andChoice ho⟩
    · rw [State.setV_getV_ne _ _ (Ne.symm hx), State.setV_getV_same]
    · rw [hx] at hres ⊢
      exact ⟨fun hf => absurd hf hord, fun _ => hres, fun _ => .inr hres⟩

theorem writesLogicResult_writeLogic : WritesLogicResult x r s (s.writeLogic x r) := by
  rw [State.writeLogic_eq]
  split
  · next hc =>
    refine ⟨fun hn => absurd (hc.symm.trans hn) (by decide),
      fun _ => ⟨fun hx => ?_, State.setV_getV_same _ _ _,
        ((WritesOnlyRegs.refl _ _).setV (.head _) r).setV (.tail _ (.head _)) _⟩⟩
    rw [State.setV_getV_ne _ _ hx, State.setV_getV_same]
  · next hc =>
    exact ⟨fun _ => ⟨State.setV_getV_same _ _ _, writesOnlyRegs_setV s x r⟩,
      fun ht => absurd ht hc⟩

end

/-! ### Exact results truncated to a byte (R100) -/

section
variable (a b : Byte)

theorem trunc8_add : trunc8 (a.toNat + b.toNat) = a + b := (BitVec.add_def a b).symm

theorem trunc8_sub : trunc8 (a.toNat + 256 - b.toNat) = a - b := by bv_omega

theorem shiftedOutLsb_toNat : (shiftedOutLsb a).toNat = a.toNat % 2 := by
  rw [shiftedOutLsb, BitVec.toNat_and]
  exact Nat.and_one_is_mod _

theorem shiftedOutMsb_toNat : (shiftedOutMsb a).toNat = a.toNat / 128 := by
  rw [shiftedOutMsb, BitVec.toNat_ushiftRight, Nat.shiftRight_eq_div_pow]

theorem half_toNat : (a >>> 1).toNat = a.toNat / 2 := by
  rw [BitVec.toNat_ushiftRight, Nat.shiftRight_eq_div_pow]

/-- The bit that SHR moves into VF is shifted out when VF is the source (R111). -/
theorem half_shiftedOutLsb : shiftedOutLsb a >>> 1 = 0#8 := by
  apply BitVec.eq_of_toNat_eq
  rw [half_toNat, shiftedOutLsb_toNat]
  exact Nat.div_eq_of_lt (Nat.mod_lt _ (by decide))

/-- The bit that SHL moves into VF is doubled without overflow when VF is the source (R112). -/
theorem double_shiftedOutMsb_toNat :
    (trunc8 ((shiftedOutMsb a).toNat * 2)).toNat = a.toNat / 128 * 2 := by
  rw [BitVec.toNat_ofNat, shiftedOutMsb_toNat]
  omega

end

/-! ### Shifts -/

/-- A shift: the flag is written first, then the source is read again and the result written
(R111, R112). -/
def State.flagThenResult (s : State) (x src : Reg) (flag : Byte) (shift : Byte → Byte) : State :=
  (s.setV VF flag).setV x (shift ((s.setV VF flag).getV src))

section
variable (s : State) {x src : Reg} (flag : Byte) (shift : Byte → Byte)

theorem writesOnlyRegs_flagThenResult (x src : Reg) :
    WritesOnlyRegs [x, VF] s (s.flagThenResult x src flag shift) :=
  ((WritesOnlyRegs.refl _ _).setV (.tail _ (.head _)) _).setV (.head _) _

theorem flagThenResult_flag (hx : x ≠ VF) :
    (s.flagThenResult x src flag shift).getV VF = flag := by
  rw [State.flagThenResult, State.setV_getV_ne _ _ (Ne.symm hx), State.setV_getV_same]

theorem flagThenResult_result_of_ne (hsrc : src ≠ VF) :
    (s.flagThenResult x src flag shift).getV x = shift (s.getV src) := by
  rw [State.flagThenResult, State.setV_getV_same, State.setV_getV_ne _ _ hsrc]

/-- A shift of VF shifts the flag just written. -/
theorem flagThenResult_result_of_eq (hsrc : src = VF) :
    (s.flagThenResult x src flag shift).getV x = shift flag := by
  rw [State.flagThenResult, State.setV_getV_same, hsrc, State.setV_getV_same]

end

section
variable {s : State} {x y src : Reg}

theorem shiftReg_eq_of_source (hvx : s.cfg.shiftSource = .vx → src = x)
    (hvy : s.cfg.shiftSource = .vy → src = y) : s.shiftReg x y = src := by
  unfold State.shiftReg
  split
  · next h => exact (hvx h).symm
  · next h => exact (hvy h).symm

theorem exec_shr (hsrc : s.shiftReg x y = src) : exec (.shr x y) s =
    .next (s.flagThenResult x src (shiftedOutLsb (s.getV src)) (· >>> 1)) := by
  rw [← hsrc]
  rfl

theorem exec_shl (hsrc : s.shiftReg x y = src) : exec (.shl x y) s =
    .next (s.flagThenResult x src (shiftedOutMsb (s.getV src)) (trunc8 <| ·.toNat * 2)) := by
  rw [← hsrc]
  rfl

end

/-! ### The statements -/

/-- Settles O20: each of the two is one register write. -/
theorem registerLoads : Obligations.RegisterLoads := fun x y _ s =>
  ⟨encodes_of_encode_eq rfl rfl, encodes_of_encode_eq rfl (packNibbles_eq_fixed_add_xy 8 0 x y),
    ⟨_, rfl, State.setV_getV_same _ _ _, writesOnlyRegs_setV s x _⟩,
    ⟨_, rfl, State.setV_getV_same _ _ _, writesOnlyRegs_setV s x _⟩⟩

/-- Settles O21, by the parameter `ADD_IMM_SETS_VF`: WriteRF when it is set, else one register
write. -/
theorem addImmediate : Obligations.AddImmediate := by
  intro x kk s
  refine ⟨encodes_of_encode_eq rfl rfl, ?_⟩
  rw [← trunc8_add]
  by_cases h : s.cfg.addImmSetsVf = true
  · exact ⟨_, if_pos h, fun hn => absurd (h.symm.trans hn) (by decide),
      fun _ => writesResultAndFlag_writeRF s x _ _⟩
  · exact ⟨_, if_neg h, fun _ => ⟨State.setV_getV_same _ _ _, writesOnlyRegs_setV s x _⟩,
      fun ht => absurd ht h⟩

/-- Settles O22: each of the three writes a logic result. -/
theorem logicOperations : Obligations.LogicOperations := fun x y s =>
  ⟨encodes_of_encode_eq rfl (packNibbles_eq_fixed_add_xy 8 1 x y),
    encodes_of_encode_eq rfl (packNibbles_eq_fixed_add_xy 8 2 x y),
    encodes_of_encode_eq rfl (packNibbles_eq_fixed_add_xy 8 3 x y),
    ⟨_, rfl, writesLogicResult_writeLogic s x _⟩, ⟨_, rfl, writesLogicResult_writeLogic s x _⟩,
    ⟨_, rfl, writesLogicResult_writeLogic s x _⟩⟩

/-- Settles O23: the exact sum, truncated, and its carry go through WriteRF. -/
theorem addRegisters : Obligations.AddRegisters := by
  intro x y s
  rw [← trunc8_add]
  exact ⟨encodes_of_encode_eq rfl (packNibbles_eq_fixed_add_xy 8 4 x y), _, rfl,
    writesResultAndFlag_writeRF s x _ _⟩

/-- Settles O24: the exact difference plus 256, truncated, and the no-borrow flag go through
WriteRF. -/
theorem subtractRegisters : Obligations.SubtractRegisters := by
  intro x y s
  rw [← trunc8_sub (s.getV x), ← trunc8_sub (s.getV y)]
  exact ⟨encodes_of_encode_eq rfl (packNibbles_eq_fixed_add_xy 8 5 x y),
    encodes_of_encode_eq rfl (packNibbles_eq_fixed_add_xy 8 7 x y),
    ⟨_, rfl, writesResultAndFlag_writeRF s x _ _⟩, ⟨_, rfl, writesResultAndFlag_writeRF s x _ _⟩⟩

/-- Settles O25: a source other than VF is read unchanged by the flag write; VF holds bit 0 by then,
and its half is 0. -/
theorem shiftRight : Obligations.ShiftRight := by
  intro x y src s hvx hvy
  refine ⟨encodes_of_encode_eq rfl (packNibbles_eq_fixed_add_xy 8 6 x y), _,
    exec_shr (shiftReg_eq_of_source hvx hvy), writesOnlyRegs_flagThenResult s _ _ x src,
    fun hx => ?flag, fun hsrc => ?other, fun hsrc => ?vf⟩
  case flag => rw [flagThenResult_flag _ _ _ hx, shiftedOutLsb_toNat]
  case other => rw [flagThenResult_result_of_ne _ _ _ hsrc, half_toNat]
  case vf => rw [flagThenResult_result_of_eq _ _ _ hsrc, half_shiftedOutLsb]

/-- Settles O26: a source other than VF is read unchanged by the flag write; VF holds bit 7 of its
old value by then, and that is doubled. -/
theorem shiftLeft : Obligations.ShiftLeft := by
  intro x y src s hvx hvy
  refine ⟨encodes_of_encode_eq rfl (packNibbles_eq_fixed_add_xy 8 0xE x y), _,
    exec_shl (shiftReg_eq_of_source hvx hvy), writesOnlyRegs_flagThenResult s _ _ x src,
    fun hx => ?flag, fun hsrc => ?other, fun hsrc => ?vf⟩
  case flag => rw [flagThenResult_flag _ _ _ hx, shiftedOutMsb_toNat]
  case other => rw [flagThenResult_result_of_ne _ _ _ hsrc, BitVec.toNat_ofNat]
  case vf => rw [flagThenResult_result_of_eq _ _ _ hsrc, double_shiftedOutMsb_toNat]

/-- Settles O27: after the draw, RND is one register write of the masked byte. -/
theorem randomMasked : Obligations.RandomMasked := by
  intro x kk s
  have hres := State.setV_getV_same s.drawRand.2 x (s.drawRand.1 &&& kk)
  refine ⟨encodes_of_encode_eq rfl rfl, _, rfl, hres, ?_, writesOnlyRegs_setV s.drawRand.2 x _⟩
  rw [hres, BitVec.and_assoc, BitVec.and_not_self]
  exact BitVec.and_zero

end Sys2Proof.Machine
end

section
/-! SUPPORT. The writes of I, the bytes that a store leaves in memory and what it leaves unchanged,
the two outcomes of the range check, and the statements of 43_index_memory.md from them. -/

namespace Sys2Proof.Machine

/-! ### Writes of I -/

section
variable (s : State)

theorem WritesOnlyI.refl : WritesOnlyI s s :=
  ⟨fun _ _ => rfl, rfl,
    ⟨fun _ => rfl, ⟨rfl, rfl⟩, ⟨rfl, rfl⟩, ⟨rfl, rfl, rfl, rfl, rfl, rfl⟩, rfl⟩,
    ⟨rfl, rfl⟩, ⟨rfl, rfl, rfl⟩⟩

theorem writesOnlyI_setI (n : Nat) : WritesOnlyI s (s.setI n) := WritesOnlyI.refl s

/-- The end of a transfer, by the two values of MEM_INCREMENTS_I (R125, R126). -/
theorem bumpI_spec (x : Reg) : IAfterTransfer x s (s.bumpI x) ∧ WritesOnlyI s (s.bumpI x) := by
  rw [State.bumpI_eq]
  split
  · next hon => exact ⟨⟨fun hoff => absurd (hon.symm.trans hoff) (by decide),
      fun _ => State.setI_I_toNat s _⟩, writesOnlyI_setI s _⟩
  · next hoff => exact ⟨⟨fun _ => rfl, fun hon => absurd hon hoff⟩, WritesOnlyI.refl s⟩

/-- An address operand is below 4096, so the mask to 12 bits loses nothing (R120). -/
theorem setI_target_I_toNat (nnn : Addr) : (s.setI (target nnn)).I.toNat = nnn.toNat := by
  rw [State.setI_I_toNat, target]
  exact Nat.mod_eq_of_lt nnn.isLt

theorem fontDigit_lt (x : Reg) : s.fontDigit x < 256 := by
  have hv := (s.getV x).isLt
  unfold State.fontDigit
  split <;> omega

/-- The glyph address of every byte is below 4096, so the mask to 12 bits loses nothing (R122). -/
theorem setI_glyphAddr_I_toNat (x : Reg) :
    (s.setI (glyphAddr (s.fontDigit x))).I.toNat = 5 * s.fontDigit x := by
  have hd := fontDigit_lt s x
  rw [State.setI_I_toNat, glyphAddr, fontBase]
  omega

end

/-! ### Bytes stored from I on -/

section
variable {s : State} {bs : List Byte}

/-- A byte stored at I + k reads back (R47, R49). -/
theorem read_writeBytes_effAddr (hm : s.mem.wf = true) (hr : s.effAddr 0 + bs.length ≤ memSize)
    {k : Nat} (hk : k < bs.length) :
    (s.mem.writeBytes (s.effAddr 0) bs).read (s.effAddr k) = bs.getD k 0#8 := by
  have hin : s.effAddr 0 ≤ s.effAddr k ∧ s.effAddr k < s.effAddr 0 + bs.length :=
    ⟨Nat.le_add_right _ _, Nat.add_lt_add_left hk _⟩
  have hoff : s.effAddr k - s.effAddr 0 = k := Nat.add_sub_cancel_left _ _
  rw [Memory.read_writeBytes hm hr, if_pos hin, hoff]

/-- A value below 256 stored at I + k reads back as itself. -/
theorem read_writeBytes_effAddr_toNat (hm : s.mem.wf = true)
    (hr : s.effAddr 0 + bs.length ≤ memSize) {k d : Nat} (hk : k < bs.length)
    (hd : bs.getD k 0#8 = trunc8 d) (hlt : d < 256) :
    ((s.mem.writeBytes (s.effAddr 0) bs).read (s.effAddr k)).toNat = d := by
  rw [read_writeBytes_effAddr hm hr hk, hd]
  exact Nat.mod_eq_of_lt hlt

/-- A store leaves every byte outside its range as it was. -/
theorem keepsMemOutside_of_mem_eq {t : State} (hm : s.mem.wf = true)
    (hr : s.effAddr 0 + bs.length ≤ memSize)
    (ht : t.mem = s.mem.writeBytes (s.effAddr 0) bs) :
    KeepsMemOutside (s.effAddr 0) bs.length s t := by
  intro b hb
  have hout : ¬(s.effAddr 0 ≤ b ∧ b < s.effAddr 0 + bs.length) := by omega
  rw [ht, Memory.read_writeBytes hm hr, if_neg hout]

end

/-! ### The range check -/

/-- The check of R48 for the n + 1 bytes at I .. I + n. -/
theorem rangeOk_succ_iff (s : State) (n : Nat) :
    s.rangeOk (n + 1) = true ↔ s.I.toNat + n ≤ 0xFFF :=
  (s.rangeOk_iff n.succ_pos).trans Nat.succ_le_succ_iff

theorem encode_ldB (x : Reg) : encode (.ldB x) = BitVec.ofNat 16 (0xF033 + x.val * 256) :=
  packByte_eq_fixed_add_x 0xF x 0x33#8

theorem encode_ldMemStore (x : Reg) :
    encode (.ldMemStore x) = BitVec.ofNat 16 (0xF055 + x.val * 256) :=
  packByte_eq_fixed_add_x 0xF x 0x55#8

theorem encode_ldMemLoad (x : Reg) :
    encode (.ldMemLoad x) = BitVec.ofNat 16 (0xF065 + x.val * 256) :=
  packByte_eq_fixed_add_x 0xF x 0x65#8

section
variable {s : State} {x : Reg}

/-- The range fault of an instruction whose word is `w` (R48, R151). -/
theorem raiseRange_faultedFrom {A w : Word} {i : Instr} (hpc : s.pc = A + 2#16)
    (hw : encode i = w) :
    FaultedFrom s (s.raiseRange i) ⟨.memoryOutOfRange, A, w, 0x1000#16⟩ :=
  hw ▸ raiseIn_faultedFrom hpc _ i _

theorem exec_ldB_of_inRange (hr : s.I.toNat + 2 ≤ 0xFFF) : exec (.ldB x) s =
    .next (s.setMem (s.mem.writeBytes (s.effAddr 0) (bcdDigits (s.getV x)))) :=
  if_pos ((rangeOk_succ_iff s 2).2 hr)

theorem exec_ldB_of_outOfRange (hr : 0xFFF < s.I.toNat + 2) :
    exec (.ldB x) s = .next (s.raiseRange (.ldB x)) :=
  if_neg (mt (rangeOk_succ_iff s 2).1 hr.not_ge)

theorem exec_ldMemStore_of_outOfRange (hr : 0xFFF < s.I.toNat + x.val) :
    exec (.ldMemStore x) s = .next (s.raiseRange (.ldMemStore x)) :=
  if_neg (mt (rangeOk_succ_iff s x.val).1 hr.not_ge)

theorem exec_ldMemLoad_of_inRange (hr : s.I.toNat + x.val ≤ 0xFFF) :
    exec (.ldMemLoad x) s = .next ((s.loadRegs (regsUpTo x)).bumpI x) :=
  if_pos ((rangeOk_succ_iff s x.val).2 hr)

theorem exec_ldMemLoad_of_outOfRange (hr : 0xFFF < s.I.toNat + x.val) :
    exec (.ldMemLoad x) s = .next (s.raiseRange (.ldMemLoad x)) :=
  if_neg (mt (rangeOk_succ_iff s x.val).1 hr.not_ge)

end

/-! ### The statements -/

/-- Settles O28: each of the three is one write of I; only the sum of ADD I can reach 4096. -/
theorem addressRegisterWrites : Obligations.AddressRegisterWrites := by
  intro nnn x s
  refine ⟨encodes_of_encode_eq rfl rfl,
    encodes_of_encode_eq rfl (packByte_eq_fixed_add_x 0xF x 0x1E#8),
    encodes_of_encode_eq rfl (packByte_eq_fixed_add_x 0xF x 0x29#8),
    ⟨_, rfl, setI_target_I_toNat s nnn, writesOnlyI_setI s _⟩,
    ⟨_, rfl, State.setI_I_toNat s _, writesOnlyI_setI s _⟩,
    ⟨_, rfl, writesOnlyI_setI s _, fun hoff => ?_, fun hon => ?_⟩⟩
  · rw [setI_glyphAddr_I_toNat, State.fontDigit, hoff, if_neg Bool.false_ne_true]
  · rw [setI_glyphAddr_I_toNat, State.fontDigit, if_pos hon]

/-- Settles O29, by the two outcomes of the range check on three bytes. -/
theorem bcdStore : Obligations.BcdStore := by
  intro x s A hpc hm
  refine ⟨encodes_of_encode_eq rfl (encode_ldB x), fun hr => ?_, fun hr => ?_⟩
  · have hv := (s.getV x).isLt
    have hlen : s.effAddr 0 + (bcdDigits (s.getV x)).length ≤ memSize := Nat.succ_le_succ hr
    have hread {k d : Nat} (hk : k < 3) := read_writeBytes_effAddr_toNat hm hlen hk (d := d)
    exact ⟨_, exec_ldB_of_inRange hr, hread (k := 0) (by decide) rfl (by omega),
      hread (k := 1) (by decide) rfl (by omega), hread (k := 2) (by decide) rfl (by omega),
      keepsMemOutside_of_mem_eq hm hlen rfl, fun _ _ => rfl, rfl, rfl,
      ⟨⟨rfl, rfl⟩, ⟨rfl, rfl⟩, ⟨rfl, rfl, rfl, rfl, rfl, rfl⟩, rfl⟩, ⟨rfl, rfl⟩, ⟨rfl, rfl, rfl⟩⟩
  · exact ⟨_, exec_ldB_of_outOfRange hr, raiseRange_faultedFrom hpc (encode_ldB x)⟩

/-- Settles O30: the three bytes are those of `bcdStore`, and a byte is 100, 10 and 1 times its
decimal digits. -/
theorem bcdRoundTrip : Obligations.BcdRoundTrip := by
  intro x s hm hI
  have hpc : s.pc = s.pc - 2#16 + 2#16 := (BitVec.sub_add_cancel _ _).symm
  obtain ⟨-, hin, -⟩ := bcdStore x s _ hpc hm
  obtain ⟨t, ht, hhundreds, htens, hones, -⟩ := hin (by omega)
  have hv := (s.getV x).isLt
  simp only [State.effAddr, Nat.add_zero] at hhundreds htens hones
  refine ⟨t, ht, by omega, fun k hk => ?_⟩
  obtain rfl | rfl | rfl : k = 0 ∨ k = 1 ∨ k = 2 := by omega
  · rw [Nat.add_zero]
    omega
  · omega
  · omega

/-- Settles O31, by the two outcomes of the range check on x + 1 bytes. -/
theorem registerStore : Obligations.RegisterStore := by
  intro x s A hpc hm
  refine ⟨encodes_of_encode_eq rfl (encode_ldMemStore x), fun hr => ?_, fun hr => ?_⟩
  · have hexec := exec_ldMemStore_of_inRange hr
    have hlen : s.effAddr 0 + (s.valuesUpTo x).length ≤ memSize := by
      rw [State.valuesUpTo_length]
      exact Nat.succ_le_succ hr
    have hmem := keepsMemOutside_of_mem_eq hm hlen (State.bumpI_mem (s.setMem _) x)
    rw [State.valuesUpTo_length] at hmem
    obtain ⟨hI, hregs, hpc', ⟨-, hrest⟩, hports, hinputs⟩ :=
      bumpI_spec (s.setMem (s.mem.writeBytes (s.effAddr 0) (s.valuesUpTo x))) x
    exact ⟨_, hexec, fun _ hk => read_of_exec_ldMemStore hm hr hexec hk, hmem, hI,
      hregs, hpc', hrest, hports, hinputs⟩
  · exact ⟨_, exec_ldMemStore_of_outOfRange hr, raiseRange_faultedFrom hpc (encode_ldMemStore x)⟩

/-- Settles O32, by the two outcomes of the range check on x + 1 bytes; the loads leave I and
MEM_INCREMENTS_I for the increment. -/
theorem registerLoad : Obligations.RegisterLoad := by
  intro x s A hpc
  refine ⟨encodes_of_encode_eq rfl (encode_ldMemLoad x), fun hr => ?_, fun hr => ?_⟩
  · have hload (k : Reg) := s.loadRegs_getV (regsUpTo x) k
    have hexec := exec_ldMemLoad_of_inRange hr
    obtain ⟨V, hV⟩ := s.loadRegs_eq (regsUpTo x)
    rw [hV] at hload hexec
    obtain ⟨hI, hregs, hpc', hcore, hports, hinputs⟩ := bumpI_spec { s with V := V } x
    refine ⟨_, hexec, fun k hk => ?loaded, fun k hk => ?above, hI, hpc', hcore,
      hports, hinputs⟩
    case loaded =>
      exact (hregs k List.not_mem_nil).trans ((hload k).trans (if_pos (mem_regsUpTo.2 hk)))
    case above =>
      exact (hregs k List.not_mem_nil).trans
        ((hload k).trans (if_neg (mt mem_regsUpTo.1 hk.not_ge)))
  · exact ⟨_, exec_ldMemLoad_of_outOfRange hr, raiseRange_faultedFrom hpc (encode_ldMemLoad x)⟩

end Sys2Proof.Machine
end

section
/-! SUPPORT. The timer instructions, the key load and the poll, one equation per outcome
(44_timers_input.md R130 to R134), and the statements about them. -/

namespace Sys2Proof.Machine

/-! ### Timer instructions -/

/-- What an instruction that writes a timer keeps: everything but DT and ST. -/
def WritesOnlyTimers (s t : State) : Prop :=
  KeepsRegsExcept [] s t ∧ t.I = s.I ∧ t.pc = s.pc ∧ KeepsMem s t ∧ KeepsStack s t ∧
    KeepsControl s t ∧ t.orders = s.orders ∧ KeepsPorts s t ∧ KeepsInputs s t

/-- This covers a write of one timer: the other is written with the value it holds. -/
theorem writesOnlyTimers_setDT_setST (s : State) (d v : Byte) :
    WritesOnlyTimers s ((s.setDT d).setST v) :=
  ⟨fun _ _ => rfl, rfl, rfl, fun _ => rfl, ⟨rfl, rfl⟩, ⟨rfl, rfl, rfl, rfl, rfl, rfl⟩, rfl,
    ⟨rfl, rfl⟩, ⟨rfl, rfl, rfl⟩⟩

/-- Settles O34: the first is one register write, the other two are one timer write each. -/
theorem timerInstructions : Obligations.TimerInstructions := fun x s =>
  ⟨encodes_of_encode_eq rfl (packByte_eq_fixed_add_x 0xF x 0x07#8),
    encodes_of_encode_eq rfl (packByte_eq_fixed_add_x 0xF x 0x15#8),
    encodes_of_encode_eq rfl (packByte_eq_fixed_add_x 0xF x 0x18#8),
    ⟨_, rfl, State.setV_getV_same _ _ _, writesOnlyRegs_setV s x _⟩,
    ⟨_, rfl, rfl, rfl, writesOnlyTimers_setDT_setST s (s.getV x) s.ST⟩,
    ⟨_, rfl, rfl, rfl, writesOnlyTimers_setDT_setST s s.DT (s.getV x)⟩⟩

/-! ### A sample, taken by LD Vx, K or by a poll -/

theorem keyByte_toNat (c : Key) : (keyByte c).toNat = c.val :=
  Nat.mod_eq_of_lt (c.isLt.trans (by decide))

section
variable {s : State} {x : Reg}

theorem takeKeyOrWait_of_key {c : Key} (h : s.sampleKey.1 = some c) :
    s.takeKeyOrWait x = s.sampleKey.2.setV x (keyByte c) := by
  simp only [State.takeKeyOrWait, h]

theorem takeKeyOrWait_of_noKey (h : s.sampleKey.1 = none) :
    s.takeKeyOrWait x = s.sampleKey.2.setCpuMode (.waitKey x) := by
  simp only [State.takeKeyOrWait, h]

theorem pollKey_of_key {c : Key} (h : s.sampleKey.1 = some c) :
    pollKey x s = (s.sampleKey.2.setV x (keyByte c)).setCpuMode .exec := by
  simp only [pollKey, h]

theorem pollKey_of_noKey (h : s.sampleKey.1 = none) : pollKey x s = s.sampleKey.2 := by
  simp only [pollKey, h]

/-- With a key or with none, a poll writes general registers, the mode and the input feed at most. -/
theorem pollKey_eq (x : Reg) (s : State) :
    ∃ V m, pollKey x s = { s.sampleKey.2 with V := V, cpuMode := m } := by
  cases h : s.sampleKey.1 with
  | some c => exact ⟨_, _, pollKey_of_key h⟩
  | none => exact ⟨_, _, pollKey_of_noKey h⟩

theorem step_of_waitKey (he : s.nextEvent.1 = .cpuTick) (hr : s.run = .running)
    (hm : s.cpuMode = .waitKey x) : step s = .next (pollKey x s.nextEvent.2) := by
  have hr' : s.nextEvent.2.run = .running := hr
  have hm' : s.nextEvent.2.cpuMode = .waitKey x := hm
  simp only [step_of_cpuTick he, cpuTick, hr', hm']

theorem timerTick_of_running (hr : s.run = .running) : timerTick s = s.runTimers := by
  simp only [timerTick, hr]

end

theorem countDown_toNat (v : Byte) : (countDown v).toNat = v.toNat - 1 := by
  unfold countDown
  split
  · next h => rw [h]; rfl
  · bv_omega

/-- Settles O35, by the two outcomes of the sample. -/
theorem keyLoadOrWait : Obligations.KeyLoadOrWait := by
  intro x s
  refine ⟨encodes_of_encode_eq rfl (packByte_eq_fixed_add_x 0xF x 0x0A#8),
    fun c hc => ?key, fun hnone => ?noKey⟩
  case key =>
    obtain ⟨hregs, hI, hpc, hcore, hports, -⟩ :=
      writesOnlyRegs_setV s.sampleKey.2 x (keyByte c)
    refine ⟨_, congrArg Host.Outcome.next (takeKeyOrWait_of_key hc), ?_, hregs, hI, hpc, hcore,
      hports, rfl, rfl, rfl⟩
    rw [State.setV_getV_same, keyByte_toNat]
  case noKey =>
    exact ⟨_, congrArg Host.Outcome.next (takeKeyOrWait_of_noKey hnone), rfl, fun _ _ => rfl, rfl,
      rfl, fun _ => rfl, ⟨rfl, rfl⟩, ⟨rfl, rfl⟩, rfl, rfl, rfl, rfl, rfl, rfl, ⟨rfl, rfl⟩, rfl, rfl,
      rfl⟩

/-- Settles O36: the tick is one poll, with a key or with none; the timer tick looks at `run` and
not at the mode. -/
theorem keyWaitPolls : Obligations.KeyWaitPolls := by
  intro s x hr hm
  refine ⟨fun he => ?poll, fun he => ?timer⟩
  case poll =>
    refine ⟨_, step_of_waitKey he hr hm, fun c hc => ?key, fun hnone => ?noKey, ?frame⟩
    case key =>
      obtain ⟨hregs, -⟩ := writesOnlyRegs_setV s.nextEvent.2.sampleKey.2 x (keyByte c)
      rw [pollKey_of_key (s := s.nextEvent.2) hc]
      refine ⟨?_, rfl, hregs⟩
      rw [State.setCpuMode_getV, State.setV_getV_same, keyByte_toNat]
    case noKey =>
      rw [pollKey_of_noKey (s := s.nextEvent.2) hnone]
      exact ⟨hm, fun _ _ => rfl⟩
    case frame =>
      obtain ⟨V, m, h⟩ := pollKey_eq x s.nextEvent.2
      rw [h]
      exact ⟨rfl, rfl, fun _ => rfl, ⟨rfl, rfl⟩, ⟨rfl, rfl⟩, hr, rfl, rfl, rfl, rfl, ⟨rfl, rfl⟩,
        rfl, rfl, rfl⟩
  case timer =>
    refine ⟨_, step_of_timerTick he, ?_⟩
    rw [timerTick_of_running (s := s.nextEvent.2) hr, State.runTimers_eq]
    exact ⟨countDown_toNat _, countDown_toNat _, hm, fun _ _ => rfl, rfl⟩

end Sys2Proof.Machine
end

section
/-! SUPPORT. What one instruction takes from the feeds and calls on the ports, said once for every
instruction: `exec_outsideUse`. -/

namespace Sys2Proof.Machine

/-- What the core exchanges with the outside: the four feeds and the record of port calls. -/
structure Outside where
  schedule : Feed Event
  keys : Feed (Option Key)
  rands : Feed Byte
  orders : Feed Bool
  ports : List PortCall

def State.outside (s : State) : Outside := ⟨s.schedule, s.keys, s.rands, s.orders, s.ports⟩

theorem State.outside_eq_iff {s : State} {o : Outside} :
    s.outside = o ↔ s.schedule = o.schedule ∧ s.keys = o.keys ∧ s.rands = o.rands ∧
      s.orders = o.orders ∧ s.ports = o.ports := by
  cases o
  exact iff_of_eq (Outside.mk.injEq ..)

/-- The exchanges that the rules allow an instruction: none, or one of those listed (R101, R136,
R152, R172, R173, R175). -/
inductive OutsideUse (i : Instr) (s t : State) : Prop
  | nothing (h : t.outside = s.outside)
  | sample (f : Feed (Option Key)) (hi : ∃ x, i = .skp x ∨ i = .sknp x ∨ i = .ldVxK x)
      (h : t.outside = (s.setKeys f).outside)
  | random (f : Feed Byte) (hi : ∃ x kk, i = .rnd x kk) (h : t.outside = (s.setRands f).outside)
  | choice (f : Feed Bool) (hc : s.cfg.vfOrder = .either) (hi : writesFlag s.cfg i = true)
      (h : t.outside = (s.setOrders f).outside)
  | clear (hi : i = .cls) (h : t.outside = (s.emit .displayClear).outside)
  | draw (x y : Reg) (n : Fin 16) (bytes : List Byte) (hi : i = .drw x y n)
      (h : t.outside = (s.emit (.displayDraw bytes (s.getV x) (s.getV y))).outside)
  | stopBeep (hb : s.beep = true) (hr : t.run = .faulted)
      (h : t.outside = (s.emit .stopBeep).outside)

/-! ### One rule per operation -/

section
variable (s : State)

theorem skipIf_outside (c : Bool) : (s.skipIf c).outside = s.outside := by
  rw [State.skipIf_eq]
  rfl

theorem writeLogic_outside (x : Reg) (r : Byte) : (s.writeLogic x r).outside = s.outside := by
  rw [State.writeLogic_eq]
  split <;> rfl

theorem bumpI_outside (x : Reg) : (s.bumpI x).outside = s.outside := by
  rw [State.bumpI_eq]
  split <;> rfl

theorem loadRegs_outside (rs : List Reg) : (s.loadRegs rs).outside = s.outside := by
  obtain ⟨V, h⟩ := s.loadRegs_eq rs
  rw [h]
  rfl

theorem takeKeyOrWait_outside (x : Reg) :
    (s.takeKeyOrWait x).outside = s.sampleKey.2.outside := by
  unfold State.takeKeyOrWait
  split <;> rfl

/-- A fault calls a port only to silence a beep (R152). -/
theorem outsideUse_raiseIn (i j : Instr) (cause : FaultCause) (data : Word) :
    OutsideUse i s (s.raiseIn cause j data) := by
  rw [State.raiseIn, State.raise_eq]
  cases hb : s.beep with
  | true => exact .stopBeep hb rfl rfl
  | false => exact .nothing (congrArg (Outside.mk _ _ _ _) (List.append_nil _))

/-- The result-and-flag write takes a choice only with `VF_ORDER = either` (R101). -/
theorem outsideUse_writeRF {i : Instr} (hi : writesFlag s.cfg i = true) (x : Reg) (r : Byte)
    (f : Bool) : OutsideUse i s (s.writeRF x r f) := by
  obtain ⟨o, ho, h⟩ : ∃ o, (s.cfg.vfOrder ≠ .either → o = s.orders) ∧
      (s.writeRF x r f).outside = (s.setOrders o).outside := by
    obtain ⟨-, o, ho, h⟩ | ⟨-, o, ho, h⟩ := s.writeRF_cases x r f <;> exact ⟨o, ho, by rw [h]; rfl⟩
  by_cases hc : s.cfg.vfOrder = .either
  · exact .choice o hc hi h
  · rw [ho hc] at h
    exact .nothing h

end

/-! ### Every instruction -/

theorem exec_outsideUse {i : Instr} {s t : State} (h : exec i s = .next t) :
    OutsideUse i s t := by
  cases i with
  | sys nnn | jp nnn | jpV0 nnn | ldImm x kk | ldReg x y | shr x y | shl x y | ldI nnn | addI x
  | ldF x | ldVxDt x | ldDtVx x | ldStVx x =>
    cases h
    exact .nothing rfl
  | cls =>
    cases h
    exact .clear rfl rfl
  | ret =>
    simp only [exec, execRet] at h
    split at h <;> cases h
    · next v u hp =>
      obtain ⟨_, _, _, rfl⟩ := State.pop_spec hp
      exact .nothing rfl
    · exact outsideUse_raiseIn s _ _ _ _
  | call nnn =>
    simp only [exec, execCall] at h
    split at h <;> cases h
    · next u hp =>
      obtain ⟨_, rfl⟩ := State.push_spec hp
      exact .nothing rfl
    · exact outsideUse_raiseIn s _ _ _ _
  | seImm x kk | sneImm x kk | seReg x y | sneReg x y =>
    cases h
    exact .nothing (skipIf_outside s _)
  | skp x =>
    cases h
    exact .sample _ ⟨x, .inl rfl⟩ (skipIf_outside s.sampleKey.2 _)
  | sknp x =>
    cases h
    exact .sample _ ⟨x, .inr (.inl rfl)⟩ (skipIf_outside s.sampleKey.2 _)
  | ldVxK x =>
    cases h
    exact .sample _ ⟨x, .inr (.inr rfl)⟩ (takeKeyOrWait_outside s x)
  | rnd x kk =>
    cases h
    exact .random _ ⟨x, kk, rfl⟩ rfl
  | addImm x kk =>
    simp only [exec, execAddImm] at h
    split at h <;> cases h
    · next hf => exact outsideUse_writeRF s (i := .addImm x kk) hf _ _ _
    · exact .nothing rfl
  | addReg x y | subReg x y | subnReg x y =>
    cases h
    exact outsideUse_writeRF s rfl _ _ _
  | orReg x y | andReg x y | xorReg x y =>
    cases h
    exact .nothing (writeLogic_outside s x _)
  | ldB x =>
    simp only [exec, execLdB] at h
    split at h <;> cases h
    · exact .nothing rfl
    · exact outsideUse_raiseIn s _ _ _ _
  | ldMemStore x =>
    simp only [exec, execLdMemStore] at h
    split at h <;> cases h
    · exact .nothing (bumpI_outside (s.setMem _) x)
    · exact outsideUse_raiseIn s _ _ _ _
  | ldMemLoad x =>
    simp only [exec, execLdMemLoad] at h
    split at h <;> cases h
    · exact .nothing ((bumpI_outside _ x).trans (loadRegs_outside s _))
    · exact outsideUse_raiseIn s _ _ _ _
  | drw x y n =>
    simp only [exec, execDrw] at h
    split at h <;> cases h
    · exact .draw x y n _ rfl rfl
    · exact outsideUse_raiseIn s _ _ _ _

/-- Settles O56, one exchange of `exec_outsideUse` at a time: the feeds and ports that it does not
name hold what they held. -/
theorem usersOfEachPort : Obligations.UsersOfEachPort := by
  intro i s t h
  cases exec_outsideUse h with
  | nothing h =>
    obtain ⟨hs, hk, hr, ho, hp⟩ := State.outside_eq_iff.1 h
    exact ⟨absurd hk, absurd hr, absurd ho, hs, absurd hp⟩
  | sample f hi h =>
    obtain ⟨hs, -, hr, ho, hp⟩ := State.outside_eq_iff.1 h
    exact ⟨fun _ => hi, absurd hr, absurd ho, hs, absurd hp⟩
  | random f hi h =>
    obtain ⟨hs, hk, -, ho, hp⟩ := State.outside_eq_iff.1 h
    exact ⟨absurd hk, fun _ => hi, absurd ho, hs, absurd hp⟩
  | choice f hc hi h =>
    obtain ⟨hs, hk, hr, -, hp⟩ := State.outside_eq_iff.1 h
    exact ⟨absurd hk, absurd hr, fun _ => ⟨hc, hi⟩, hs, absurd hp⟩
  | clear hi h =>
    obtain ⟨hs, hk, hr, ho, hp⟩ := State.outside_eq_iff.1 h
    exact ⟨absurd hk, absurd hr, absurd ho, hs, fun _ => .inl ⟨hi, hp⟩⟩
  | draw x y n bytes hi h =>
    obtain ⟨hs, hk, hr, ho, hp⟩ := State.outside_eq_iff.1 h
    exact ⟨absurd hk, absurd hr, absurd ho, hs, fun _ => .inr (.inl ⟨x, y, n, bytes, hi, hp⟩)⟩
  | stopBeep hb hf h =>
    obtain ⟨hs, hk, hr, ho, hp⟩ := State.outside_eq_iff.1 h
    exact ⟨absurd hk, absurd hr, absurd ho, hs, fun _ => .inr (.inr ⟨hb, hf, hp⟩)⟩

end Sys2Proof.Machine
end

section
/-! SUPPORT. One relation for everything that draws, `Flips`: it holds of one sprite bit and
composes over disjoint sets of pixels, so it holds of a row and of a sprite. Then DRW's two
outcomes, and the statements of 45_display.md from them. -/

namespace Sys2Proof.Machine

/-! ### Flipping a set of pixels -/

/-- From `a` to `b` the pixels of `P` are flipped and no others, and the collision that `b` reports
is that of `a`, or a pixel of `P` that was on (R145). -/
structure Flips (P : Nat → Nat → Prop) (a b : FrameBuffer × Bool) : Prop where
  flipped : ∀ X Y : Nat, X < 64 → Y < 32 → P X Y → b.1.pixel X Y = !a.1.pixel X Y
  kept : ∀ X Y : Nat, X < 64 → Y < 32 → ¬P X Y → b.1.pixel X Y = a.1.pixel X Y
  collides : b.2 = true ↔
    a.2 = true ∨ ∃ X Y : Nat, X < 64 ∧ Y < 32 ∧ P X Y ∧ a.1.pixel X Y = true

section
variable {P Q : Nat → Nat → Prop} {a b c : FrameBuffer × Bool}

theorem Flips.refl_of_empty (hP : ∀ X Y, ¬P X Y) (a : FrameBuffer × Bool) : Flips P a a where
  flipped X Y _ _ h := absurd h (hP X Y)
  kept _ _ _ _ _ := rfl
  collides := (or_iff_left fun ⟨X, Y, _, _, h, _⟩ => hP X Y h).symm

theorem Flips.congr (h : Flips P a b) (hPQ : ∀ X Y, Q X Y ↔ P X Y) : Flips Q a b := by
  have : Q = P := funext fun X => funext fun Y => propext (hPQ X Y)
  rwa [this]

/-- Two sets flipped in turn, with no pixel in both: the second set finds its pixels as they were
before the first. -/
theorem Flips.trans (hab : Flips P a b) (hbc : Flips Q b c) (hdisj : ∀ X Y, P X Y → ¬Q X Y) :
    Flips (fun X Y => P X Y ∨ Q X Y) a c where
  flipped X Y hX hY h := by
    obtain hP | hQ := h
    · rw [hbc.kept X Y hX hY (hdisj X Y hP), hab.flipped X Y hX hY hP]
    · rw [hbc.flipped X Y hX hY hQ, hab.kept X Y hX hY fun hP => hdisj X Y hP hQ]
  kept X Y hX hY h := by
    obtain ⟨hP, hQ⟩ := not_or.1 h
    rw [hbc.kept X Y hX hY hQ, hab.kept X Y hX hY hP]
  collides := by
    have hseen {X Y : Nat} (hX : X < 64) (hY : Y < 32) (hQ : Q X Y) :
        b.1.pixel X Y = a.1.pixel X Y := hab.kept X Y hX hY fun hP => hdisj X Y hP hQ
    rw [hbc.collides, hab.collides, or_assoc]
    refine or_congr_right ⟨?_, ?_⟩
    · rintro (⟨X, Y, hX, hY, hP, hon⟩ | ⟨X, Y, hX, hY, hQ, hon⟩)
      · exact ⟨X, Y, hX, hY, .inl hP, hon⟩
      · exact ⟨X, Y, hX, hY, .inr hQ, hseen hX hY hQ ▸ hon⟩
    · rintro ⟨X, Y, hX, hY, hP | hQ, hon⟩
      · exact .inl ⟨X, Y, hX, hY, hP, hon⟩
      · exact .inr ⟨X, Y, hX, hY, hQ, (hseen hX hY hQ).trans hon⟩

end

/-! ### A sprite bit, a row, a sprite -/

/-- The columns `cs` of the byte `b`, drawn at (x, y), have a set bit at pixel (X, Y). -/
def RowBit (b : Byte) (x y : Nat) (cs : List Nat) (X Y : Nat) : Prop :=
  ∃ c ∈ cs, b.getLsbD (7 - c) = true ∧ X = (x + c) % 64 ∧ Y = y % 32

theorem rowBit_cons {b : Byte} {x y c : Nat} {cs : List Nat} {X Y : Nat} :
    RowBit b x y (c :: cs) X Y ↔
      (b.getLsbD (7 - c) = true ∧ X = (x + c) % 64 ∧ Y = y % 32) ∨ RowBit b x y cs X Y :=
  List.exists_mem_cons_iff ..

theorem flips_plotBit {X Y : Nat} (hX : X < 64) (hY : Y < 32) (on : Bool)
    (acc : FrameBuffer × Bool) :
    Flips (fun X' Y' => on = true ∧ X' = X ∧ Y' = Y) acc (plotBit X Y on acc) where
  flipped X' Y' _ _ h := by
    obtain ⟨hon, rfl, rfl⟩ := h
    rw [plotBit_pixel, if_pos ⟨hon, rfl, rfl⟩]
  kept X' Y' hX' hY' h := by
    rw [plotBit_pixel, Nat.mod_eq_of_lt hX, Nat.mod_eq_of_lt hX', Nat.mod_eq_of_lt hY,
      Nat.mod_eq_of_lt hY', if_neg h]
  collides := by
    rw [plotBit_collision, Bool.or_eq_true, Bool.and_eq_true]
    refine or_congr_right ⟨fun ⟨hon, hpix⟩ => ⟨X, Y, hX, hY, ⟨hon, rfl, rfl⟩, hpix⟩, ?_⟩
    rintro ⟨_, _, _, _, ⟨hon, rfl, rfl⟩, hpix⟩
    exact ⟨hon, hpix⟩

/-- Different columns below 64 are different pixels of the row, also after wraparound. -/
theorem flips_drawColumns (b : Byte) (x y : Nat) {cs : List Nat} (hcs : cs.Nodup)
    (hlt : ∀ c ∈ cs, c < 64) (acc : FrameBuffer × Bool) :
    Flips (RowBit b x y cs) acc (drawColumns b x y cs acc) := by
  induction cs generalizing acc with
  | nil => exact .refl_of_empty (fun _ _ ⟨_, hc, _⟩ => List.not_mem_nil hc) acc
  | cons c rest ih =>
    obtain ⟨hc, hrest⟩ := List.nodup_cons.1 hcs
    obtain ⟨hclt, hrlt⟩ := List.forall_mem_cons.1 hlt
    have hbit := flips_plotBit (Nat.mod_lt (x + c) (by decide)) (Nat.mod_lt y (by decide))
      (b.getLsbD (7 - c)) acc
    refine (hbit.trans (ih hrest hrlt _) ?disjoint).congr fun X Y => rowBit_cons
    rintro X Y ⟨-, hX, -⟩ ⟨c', hc', -, hX', -⟩
    have hne : c' ≠ c := fun h => hc (h ▸ hc')
    have := hrlt c' hc'
    omega

/-- Bit k of a byte, read by shifting it down. -/
theorem shiftRight_and_one_eq_one_iff (b : Byte) (k : Nat) :
    (b >>> k) &&& 1#8 = 1#8 ↔ b.getLsbD k = true := by
  rw [BitVec.and_one_eq_setWidth_ofBool_getLsbD, BitVec.getLsbD_ushiftRight, Nat.add_zero]
  cases b.getLsbD k <;> decide

theorem not_spriteBit_nil (x y X Y : Nat) : ¬SpriteBit [] x y X Y :=
  fun ⟨_, _, hr, _⟩ => Nat.not_lt_zero _ hr

/-- A sprite is its first row, and the other rows from one row lower on. -/
theorem spriteBit_cons {b : Byte} {rest : List Byte} {x y X Y : Nat} :
    SpriteBit (b :: rest) x y X Y ↔
      RowBit b x y spriteColumns X Y ∨ SpriteBit rest x (y + 1) X Y := by
  have hcol : ∀ c, c ∈ spriteColumns ↔ c < 8 := fun c => List.mem_range (n := 8)
  simp only [SpriteBit, RowBit, shiftRight_and_one_eq_one_iff, hcol]
  constructor
  · rintro ⟨r, c, hr, hc, hbit, hX, hY⟩
    cases r with
    | zero => exact .inl ⟨c, hc, hbit, hX, hY⟩
    | succ r => exact .inr ⟨r, c, Nat.lt_of_succ_lt_succ hr, hc, hbit, hX, by omega⟩
  · rintro (⟨c, hc, hbit, hX, hY⟩ | ⟨r, c, hr, hc, hbit, hX, hY⟩)
    · exact ⟨0, c, Nat.succ_pos _, hc, hbit, hX, hY⟩
    · exact ⟨r + 1, c, Nat.succ_lt_succ hr, hc, hbit, hX, by omega⟩

/-- Up to 32 rows are different rows of the frame buffer, also after wraparound. -/
theorem flips_drawRows (x y : Nat) {bytes : List Byte} (hlen : bytes.length ≤ 32)
    (acc : FrameBuffer × Bool) :
    Flips (SpriteBit bytes x y) acc (drawRows bytes x y acc) := by
  induction bytes generalizing y acc with
  | nil => exact .refl_of_empty (not_spriteBit_nil x y) acc
  | cons b rest ih =>
    have hrow := flips_drawColumns b x y (cs := spriteColumns) (by decide) (by decide) acc
    have hlt : rest.length < 32 := hlen
    refine (hrow.trans (ih (y + 1) hlt.le _) ?disjoint).congr fun X Y => spriteBit_cons
    rintro X Y ⟨-, -, -, -, hY⟩ ⟨r, -, hr, -, -, -, hY'⟩
    omega

/-- R145 as one relation; the port's limit is 15 bytes (R173). -/
theorem flips_draw (fb : FrameBuffer) {bytes : List Byte} (x y : Byte) (hlen : bytes.length ≤ 15) :
    Flips (SpriteBit bytes x.toNat y.toNat) (fb, false) (fb.draw bytes x y) :=
  flips_drawRows _ _ (hlen.trans (by decide)) _

/-! ### DRW -/

/-- A word of format `x_y_n` is its opcode and its three fields (R64). -/
theorem encode_drw (x y : Reg) (n : Fin 16) :
    encode (.drw x y n) = BitVec.ofNat 16 (0xD000 + x.val * 256 + y.val * 16 + n.val) := rfl

/-- The range check of R143: an empty sprite is in range wherever I points. -/
theorem rangeOk_iff_eq_zero_or (s : State) (n : Fin 16) :
    s.rangeOk n.val = true ↔ n = 0 ∨ s.I.toNat + n.val - 1 ≤ 0xFFF := by
  rw [State.rangeOk, Bool.or_eq_true, beq_iff_eq, decide_eq_true_eq, Fin.ext_iff, Fin.val_zero]
  omega

section
variable (s : State) (x y : Reg) (n : Fin 16)

/-- The sprite of DRW: the n bytes from I (R142). -/
def State.sprite : List Byte := s.mem.readBytes (s.effAddr 0) n.val

/-- What DRW's draw gives: the frame buffer and the collision (R142). -/
def State.spriteDrawn : FrameBuffer × Bool :=
  s.display.draw (s.sprite n) (s.getV x) (s.getV y)

/-- DRW's draw call, before VF is written (R142). -/
def State.callDraw : State :=
  (s.setDisplay (s.spriteDrawn x y n).1).emit (.displayDraw (s.sprite n) (s.getV x) (s.getV y))

end

/-- DRW in range: the draw call first, then the collision into VF (R142). -/
theorem exec_drw_of_inRange {s : State} {x y : Reg} {n : Fin 16}
    (hr : n = 0 ∨ s.I.toNat + n.val - 1 ≤ 0xFFF) :
    exec (.drw x y n) s = .next ((s.callDraw x y n).setV VF (b2i (s.spriteDrawn x y n).2)) :=
  if_pos ((rangeOk_iff_eq_zero_or s n).2 hr)

theorem exec_drw_of_outOfRange {s : State} {x y : Reg} {n : Fin 16} (hn : 0 < n.val)
    (hr : 0xFFF < s.I.toNat + n.val - 1) :
    exec (.drw x y n) s = .next (s.raiseRange (.drw x y n)) := by
  have hn0 : n ≠ 0 := Fin.pos_iff_ne_zero.1 hn
  exact if_neg (mt (rangeOk_iff_eq_zero_or s n).1 (not_or.2 ⟨hn0, hr.not_ge⟩))

/-! ### The statements -/

/-- Settles O39: the set of flipped pixels is that of the sprite's set bits. -/
theorem drawContract : Obligations.DrawContract := by
  intro fb bytes x y hlen
  obtain ⟨hflipped, hkept, hcollides⟩ := flips_draw fb x y hlen
  exact ⟨fun X Y hX hY => ⟨hflipped X Y hX hY, hkept X Y hX hY⟩,
    hcollides.trans (or_iff_right Bool.false_ne_true)⟩

/-- Settles O40: both draws flip the same pixels, and a pixel that the first draw turned on is
one of them. -/
theorem doubleDrawRestores : Obligations.DoubleDrawRestores := by
  intro fb bytes x y hlen
  have hfirst := flips_draw fb x y hlen
  have hsecond := flips_draw (fb.draw bytes x y).1 x y hlen
  refine ⟨FrameBuffer.ext_pixel fun X Y hX hY => ?restored, ?collides⟩
  case restored =>
    by_cases hbit : SpriteBit bytes x.toNat y.toNat X Y
    · rw [hsecond.flipped X Y hX hY hbit, hfirst.flipped X Y hX hY hbit, Bool.not_not]
    · rw [hsecond.kept X Y hX hY hbit, hfirst.kept X Y hX hY hbit]
  case collides =>
    rw [hsecond.collides, or_iff_right Bool.false_ne_true]
    constructor
    · rintro ⟨X, Y, hX, hY, hbit, hon⟩
      have hoff := (hfirst.flipped X Y hX hY hbit).symm.trans hon
      exact ⟨X, Y, hX, hY, Bool.eq_false_of_not_eq_true' hoff, hon⟩
    · rintro ⟨X, Y, hX, hY, hoff, hon⟩
      refine ⟨X, Y, hX, hY, by_contra fun hbit => ?_, hon⟩
      exact Bool.false_ne_true (hoff.symm.trans ((hfirst.kept X Y hX hY hbit).symm.trans hon))

/-- Settles O38, by the two outcomes of the range check; the empty sprite draws nothing. -/
theorem drawSprite : Obligations.DrawSprite := by
  intro x y n s A hpc
  refine ⟨encodes_of_encode_eq rfl (encode_drw x y n), fun hr => ?drawn, fun hn hr => ?fault⟩
  case drawn =>
    obtain ⟨hregs, hI, hpc', hcore, -, hinputs⟩ :=
      writesOnlyRegs_setV (s.callDraw x y n) VF (b2i (s.spriteDrawn x y n).2)
    refine ⟨_, s.sprite n, exec_drw_of_inRange hr, Memory.readBytes_length _ _ _,
      fun r hlt => Memory.readBytes_getD _ hlt, rfl, State.setV_getV_same _ _ _, rfl,
      fun hn => ?empty, hregs, hI, hpc', hcore, hinputs⟩
    subst hn
    exact ⟨rfl, State.setV_getV_same _ _ _, rfl⟩
  case fault =>
    exact ⟨_, exec_drw_of_outOfRange hn hr, raiseRange_faultedFrom hpc (encode_drw x y n)⟩

/-- Settles O37: CLS replaces the frame buffer by the blank one and appends its call. -/
theorem clearDisplay : Obligations.ClearDisplay := fun _ =>
  ⟨encodes_of_encode_eq rfl rfl, _, rfl, FrameBuffer.pixel_blank, rfl, rfl, rfl, ⟨rfl, rfl, rfl⟩,
    rfl⟩

end Sys2Proof.Machine
end

section
/-! SUPPORT. A CPU tick always has an outcome, said once: it leaves the lifecycle state as it is, or
Running ends in a fault of the tick (60_exceptions.md R151 to R153). -/

namespace Sys2Proof.Machine

/-- The pc that a fault of the tick leaves: A + 2 once the fetch has succeeded (R67, R153). -/
def State.faultPc (s : State) : Word :=
  if s.fetchInRange = true ∧ s.oddPcFaults = false then s.advancePc.pc else s.pc

/-- `t` is what a fault of the CPU tick taken in `s` makes of it: a cause is recorded with the
address A = the old pc, and pc may have been advanced (R151, R152). -/
def TickFaults (s t : State) : Prop :=
  ∃ cause word data, cause ≠ .none ∧
    t = ({ s with pc := s.faultPc } : State).raise cause s.pc word data

section
variable {s : State}

theorem advancePc_pc : s.advancePc.pc = s.pc + 2#16 := skipIf_pc_of_true s rfl

/-- The executing instruction finds its own address again from the advanced pc (log 8). -/
theorem advancePc_insnAddr : s.advancePc.insnAddr = s.pc := by
  rw [State.insnAddr, advancePc_pc, BitVec.add_sub_cancel]

theorem faultPc_of_fetched (h : s.fetchInRange = true ∧ s.oddPcFaults = false) :
    s.faultPc = s.pc + 2#16 := (if_pos h).trans advancePc_pc

theorem faultPc_of_not_fetched (h : ¬(s.fetchInRange = true ∧ s.oddPcFaults = false)) :
    s.faultPc = s.pc := if_neg h

/-- A word decoded on the advanced state completes or faults there with the address it came from. -/
theorem exists_decodeExecute {A : Word} (hA : s.insnAddr = A) (w : Word) :
    ∃ t, decodeExecute A w s = .next t ∧
      (Completes s t ∨ ∃ cause word data, cause ≠ .none ∧ t = s.raise cause A word data) := by
  by_cases ha : AliasRefused s w
  · exact ⟨_, decodeExecute_of_aliasRefused ha, .inr ⟨_, _, _, by decide, rfl⟩⟩
  · cases hd : decodeWord w with
    | ok i =>
      obtain ⟨t, ht, ⟨cause, data, hc, rfl⟩ | hcomp⟩ := exec_cases i s
      · exact ⟨_, (decodeExecute_of_ok ha hd).trans ht,
          .inr ⟨cause, _, data, hc, by rw [State.raiseIn, hA]⟩⟩
      · exact ⟨t, (decodeExecute_of_ok ha hd).trans ht, .inl hcomp⟩
    | error r =>
      refine ⟨_, decodeExecute_of_error ha hd, ?_⟩
      cases hu : s.cfg.unknownOpcode with
      | fault => exact .inr ⟨_, _, _, by decide, unknownWord_of_fault hu⟩
      | nop => exact .inl (by rw [unknownWord_of_nop hu]; exact .refl s)

/-- The two tests of the fetch fault at A; past them pc is A + 2 (R66, R67). -/
theorem exists_fetchExecute (s : State) :
    ∃ t, fetchExecute s = .next t ∧ (Completes s t ∨ TickFaults s t) := by
  by_cases hodd : s.oddPcFaults = true
  · have hpc := faultPc_of_not_fetched fun h => Bool.false_ne_true (h.2.symm.trans hodd)
    exact ⟨_, if_pos hodd, .inr ⟨.misalignedPc, _, _, by decide, by rw [hpc]⟩⟩
  · by_cases hr : s.fetchInRange = true
    · have hpc : s.faultPc = s.advancePc.pc := if_pos ⟨hr, eq_false_of_ne_true hodd⟩
      obtain ⟨t, ht, hcomp | ⟨cause, word, data, hc, rfl⟩⟩ :=
        exists_decodeExecute advancePc_insnAddr s.fetchWord
      · exact ⟨t, (if_neg hodd).trans ((if_pos hr).trans ht),
          .inl ((completes_setPc s _).trans hcomp)⟩
      · exact ⟨_, (if_neg hodd).trans ((if_pos hr).trans ht),
          .inr ⟨cause, word, data, hc, by rw [hpc]; rfl⟩⟩
    · have hpc := faultPc_of_not_fetched fun h => hr h.1
      exact ⟨_, (if_neg hodd).trans (if_neg hr), .inr ⟨.memoryOutOfRange, _, _, by decide,
        by rw [hpc]⟩⟩

theorem cpuTick_of_not_running (h : s.run ≠ .running) : cpuTick s = .next s := by
  unfold cpuTick
  split
  · rfl
  · rfl
  · exact absurd ‹_› h

theorem timerTick_of_not_running (h : s.run ≠ .running) : timerTick s = s :=
  (timerTick_cases s).resolve_right fun hr => h hr.1

/-- Only a tick that fetches can fault: a poll and a tick not taken keep the lifecycle state. -/
theorem exists_cpuTick (s : State) : ∃ t, cpuTick s = .next t ∧
    (t.run = s.run ∨ (s.run = .running ∧ TickFaults s t)) := by
  by_cases hr : s.run = .running
  · cases hm : s.cpuMode with
    | exec =>
      obtain ⟨t, ht, hout⟩ := exists_fetchExecute s
      exact ⟨t, (cpuTick_of_exec hr hm).trans ht, hout.imp Completes.run (⟨hr, ·⟩)⟩
    | waitKey x =>
      obtain ⟨V, m, h⟩ := pollKey_eq x s
      exact ⟨pollKey x s, by simp only [cpuTick, hr, hm], .inl (by rw [h]; rfl)⟩
  · exact ⟨s, cpuTick_of_not_running hr, .inl rfl⟩

end

/-- Settles O43: the two periodic tasks and the host commands all answer a next state. -/
theorem everyStepHasANextState : Obligations.EveryStepHasANextState := by
  intro s
  cases he : s.nextEvent.1 with
  | cpuTick =>
    obtain ⟨t, ht, -⟩ := exists_cpuTick s.nextEvent.2
    exact ⟨t, (step_of_cpuTick he).trans ht⟩
  | timerTick => exact ⟨_, step_of_timerTick he⟩
  | host c => exact ⟨_, step_of_host he⟩

end Sys2Proof.Machine
end

section
/-! SUPPORT. The lifecycle state machine: its table of transitions (60_exceptions.md R166) as a
relation that every step obeys, and the host commands that the claims name. -/

namespace Sys2Proof.Machine

/-! ### The table of transitions -/

/-- The rows of R166: the events after which the lifecycle state may be another one. -/
inductive RunChange : RunState → Event → RunState → Prop
  | stays (r : RunState) (e : Event) : RunChange r e r
  | start : RunChange .stopped (.host .start) .running
  | stop : RunChange .running (.host .stop) .stopped
  | reset {r : RunState} (h : r ≠ .faulted) : RunChange r (.host .reset) .stopped
  | load {r : RunState} (rom : List Byte) (a : Bool) (h : r ≠ .faulted) :
      RunChange r (.host (.load rom a)) (if a then .running else .stopped)
  | reload {r : RunState} (a : Bool) (h : r ≠ .faulted) :
      RunChange r (.host (.reload a)) (if a then .running else .stopped)
  | fault : RunChange .running .cpuTick .faulted

theorem TickFaults.run {s t : State} (h : TickFaults s t) : t.run = .faulted := by
  obtain ⟨_, _, _, -, rfl⟩ := h
  rw [State.raise_eq]

theorem timerTick_run (s : State) : (timerTick s).run = s.run := by
  obtain h | ⟨-, h⟩ := timerTick_cases s <;> rw [h]
  rw [State.runTimers_eq]

theorem performLoad_run {s : State} (h : s.run ≠ .faulted) (rom : List Byte) (a : Bool) :
    (s.performLoad rom a).run = if a then .running else .stopped := by
  rw [State.performLoad_eq h]

theorem HostEffect.runChange {s t : State} {c : HostCommand} (h : HostEffect s c t) :
    RunChange s.run (.host c) t.run := by
  cases h with
  | start h => exact h ▸ .start
  | stop h => exact h ▸ .stop
  | reset h => rw [State.performReset_eq]; exact .reset h
  | load _ rom a hc h _ =>
    rw [performLoad_run h]
    obtain rfl | ⟨rfl, -⟩ := hc
    · exact .load rom a h
    · exact .reload a h
  | ignored | setSpeed | answers => exact .stays _ _

theorem step_runChange {s t : State} (h : step s = .next t) :
    RunChange s.run s.nextEvent.1 t.run := by
  obtain ⟨he, h⟩ | ⟨-, rfl⟩ | ⟨c, he, rfl⟩ := step_cases h
  · obtain ⟨u, hu, hrun | ⟨hr, hf⟩⟩ := exists_cpuTick s.nextEvent.2 <;> cases hu.symm.trans h
    · rw [hrun]; exact .stays _ _
    · have hr' : s.run = .running := hr
      rw [he, hr', hf.run]; exact .fault
  · rw [timerTick_run]; exact .stays _ _
  · rw [he]; exact (hostCommand_effect c s.nextEvent.2).runChange

/-- Settles O48: each clause is read off the table. -/
theorem lifecycleTransitions : Obligations.LifecycleTransitions := by
  intro s t h
  have hchange := step_runChange h
  generalize s.run = r, s.nextEvent.1 = e, t.run = r' at hchange ⊢
  cases hchange with
  | stays => cases r <;> simp
  | start | stop | fault => simp
  | reset hr => simp [hr]
  | load rom a hr => cases a <;> simp [hr]
  | reload a hr => cases a <;> simp [hr]

/-! ### Faulted -/

theorem hostCommand_of_faulted {s : State} (h : s.run = .faulted) {c : HostCommand}
    (hc : c ≠ .readState) : hostCommand c s = s := by
  cases c with
  | start => simp only [hostCommand, State.hostStart, h]
  | stop => simp only [hostCommand, State.hostStop, h]
  | reset => simp only [hostCommand, State.hostReset, h]
  | load rom a => exact if_pos h
  | reload a => exact if_pos h
  | setSpeed q => exact if_pos h
  | readState => exact absurd rfl hc

/-- In Faulted every event but a read passes with no effect (R155). -/
theorem step_of_faulted {s : State} (h : s.run = .faulted)
    (hread : s.nextEvent.1 ≠ .host .readState) : step s = .next s.nextEvent.2 := by
  have hr : s.nextEvent.2.run = .faulted := h
  have hn : s.nextEvent.2.run ≠ .running := by simp [hr]
  cases he : s.nextEvent.1 with
  | cpuTick => exact (step_of_cpuTick he).trans (cpuTick_of_not_running hn)
  | timerTick => rw [step_of_timerTick he, timerTick_of_not_running hn]
  | host c =>
    have hc : c ≠ .readState := fun hc => hread (he.trans (congrArg Event.host hc))
    rw [step_of_host he, hostCommand_of_faulted hr hc]

/-- A read answers the block as it stands before the event (R177). -/
theorem step_of_read {s : State} (he : s.nextEvent.1 = .host .readState) :
    step s = .next (s.nextEvent.2.emit (.hostState s.toBlock)) := step_of_host he

/-- Settles O42: a read is the one event with an effect in Faulted, and it only appends its
result. -/
theorem faultedIsTerminal : Obligations.FaultedIsTerminal := by
  intro s h
  by_cases hread : s.nextEvent.1 = .host .readState
  · exact ⟨_, step_of_read hread, rfl, rfl, rfl, fun hn => absurd hread hn⟩
  · exact ⟨_, step_of_faulted h hread, rfl, rfl, rfl, fun _ => rfl⟩

/-! ### Host commands -/

/-- R164: 1000 : 60 = 50 : 3, whatever SPEED is. -/
theorem cpuHz_mul_three (c : Config) : c.cpuHz * 3 = c.timerHz * 50 := by
  unfold Config.cpuHz Config.timerHz
  ring

theorem step_of_setSpeed {s : State} {q : Speed} (he : s.nextEvent.1 = .host (.setSpeed q))
    (h : s.run ≠ .faulted) :
    step s = .next (s.nextEvent.2.setCfg { s.cfg with speed := q }) :=
  (step_of_host he).trans (congrArg Host.Outcome.next (if_neg h))

/-- Settles O52: setting SPEED writes the one parameter, a read appends its result. -/
theorem speedAndReadCommands : Obligations.SpeedAndReadCommands :=
  ⟨cpuHz_mul_three, fun _ =>
    ⟨fun _ he h => ⟨_, step_of_setSpeed he h, rfl, rfl, rfl, rfl, rfl, rfl⟩,
      fun he => ⟨_, step_of_read he, rfl, rfl, rfl, rfl⟩⟩⟩

/-- Settles O47: each command looks at `run` alone, and taking the event leaves `run` as it is. -/
theorem startAndStop : Obligations.StartAndStop := by
  intro s
  have hrun : s.nextEvent.2.run = s.run := rfl
  refine ⟨fun he => ⟨fun hs => ?_, fun hs => ?_⟩, fun he => ⟨fun hs => ?_, fun hs => ?_⟩⟩
  · simp only [step_of_host he, hostCommand, State.hostStart, hrun, hs]; rfl
  · simp only [step_of_host he, hostCommand, State.hostStart, hrun, hs]
  · simp only [step_of_host he, hostCommand, State.hostStop, hrun, hs]; rfl
  · simp only [step_of_host he, hostCommand, State.hostStop, hrun, hs]

/-! ### Faults -/

/-- Settles O41: the table leaves the CPU tick as the one way into Faulted, and a tick that gets
there is `TickFaults`. -/
theorem faultsArePrecise : Obligations.FaultsArePrecise := by
  intro s t hr h ht
  obtain ⟨-, -, -, -, hcpu⟩ := lifecycleTransitions s t h
  have he : s.nextEvent.1 = .cpuTick := hcpu hr ht
  rw [step_of_cpuTick he] at h
  obtain ⟨u, hu, hrun | ⟨-, cause, word, data, hc, rfl⟩⟩ := exists_cpuTick s.nextEvent.2 <;>
    cases hu.symm.trans h
  · exact absurd (ht.symm.trans (hrun.trans hr)) (by decide)
  · rw [State.raise_eq]
    exact ⟨he, rfl, hc, rfl, rfl, rfl, rfl, rfl, ⟨rfl, rfl⟩, ⟨rfl, rfl⟩, rfl, rfl, rfl, rfl,
      faultPc_of_fetched (s := s.nextEvent.2), faultPc_of_not_fetched (s := s.nextEvent.2)⟩

end Sys2Proof.Machine
end

section
/-! SUPPORT. The 60 Hz timer engine in Running (60_exceptions.md R159 to R162). -/

namespace Sys2Proof.Machine

/-- A timer tick as R162 says it: the audio port follows whether ST > 0 before the decrement. -/
theorem runTimers_eq_of_pos (s : State) :
    s.runTimers =
      { s with
        DT := countDown s.DT, ST := countDown s.ST, beep := decide (0 < s.ST.toNat),
        ports := s.ports ++
          (if 0 < s.ST.toNat then (if s.beep then [] else [.startBeep])
           else (if s.beep then [.stopBeep] else [])) } := by
  rw [State.runTimers_eq]
  by_cases h : s.ST = 0#8
  · simp [h]
  · have hpos : 0 < s.ST.toNat := by bv_omega
    simp [h, hpos]

/-- Settles O44, from everything that a tick in Running does. -/
theorem timerTickEffect : Obligations.TimerTickEffect := by
  intro s he hr
  refine ⟨_, step_of_timerTick he, ?_⟩
  rw [timerTick_of_running (s := s.nextEvent.2) hr, runTimers_eq_of_pos]
  exact ⟨countDown_toNat _, countDown_toNat _, rfl, rfl, rfl, rfl, rfl, ⟨rfl, rfl⟩, rfl, rfl, rfl,
    rfl, rfl, rfl, rfl, rfl, rfl, rfl⟩

section
variable {s : State} (hr : s.run = .running)
include hr

theorem iterate_timerTick_run (k : Nat) : (timerTick^[k] s).run = .running := by
  induction k with
  | zero => exact hr
  | succ k ih => rw [Function.iterate_succ_apply', timerTick_run, ih]

theorem iterate_timerTick_succ (k : Nat) :
    timerTick^[k + 1] s = (timerTick^[k] s).runTimers := by
  rw [Function.iterate_succ_apply', timerTick_of_running (iterate_timerTick_run hr k)]

theorem iterate_timerTick_timers (k : Nat) :
    (timerTick^[k] s).DT.toNat = s.DT.toNat - k ∧ (timerTick^[k] s).ST.toNat = s.ST.toNat - k := by
  induction k with
  | zero => exact ⟨rfl, rfl⟩
  | succ k ih =>
    obtain ⟨hDT, hST⟩ := ih
    rw [iterate_timerTick_succ hr, runTimers_eq_of_pos, countDown_toNat, countDown_toNat, hDT, hST]
    exact ⟨Nat.sub_sub _ _ _, Nat.sub_sub _ _ _⟩

/-- The last of k + 1 ticks sounds when k ticks have left ST above 0. -/
theorem iterate_timerTick_succ_beep (k : Nat) :
    (timerTick^[k + 1] s).beep = decide (k + 1 ≤ s.ST.toNat) := by
  rw [iterate_timerTick_succ hr, runTimers_eq_of_pos, (iterate_timerTick_timers hr k).2]
  exact decide_eq_decide.2 Nat.sub_pos_iff_lt

end

/-- Settles O45, by induction on the number of ticks. -/
theorem timersCountDown : Obligations.TimersCountDown := by
  intro s k hr
  obtain ⟨hDT, hST⟩ := iterate_timerTick_timers hr k
  refine ⟨hDT, hST, fun hk => ?_⟩
  obtain ⟨j, rfl⟩ := Nat.exists_eq_add_one_of_ne_zero hk.ne'
  exact iterate_timerTick_succ_beep hr j

end Sys2Proof.Machine
end

section
/-! SUPPORT. Power-on, `reset`, `load` and `reload` (70_reset_and_hazards.md R190 to R195). -/

namespace Sys2Proof.Machine

/-! ### The state that the commands leave -/

theorem getV_of_V_eq_zeros {s : State} (h : s.V = Vector.replicate 16 0#8) (r : Reg) :
    s.getV r = 0#8 := by
  rw [State.getV]
  simp only [h, Vector.getElem_replicate]

theorem slot_of_S_eq_zeros {s : State} (h : s.S = Vector.replicate 16 0#16) (k : Fin 16) :
    s.S[k.val] = 0#16 := by
  simp only [h, Vector.getElem_replicate]

theorem font_getD_of_le (font : Font) {a : Nat} (h : 80 ≤ a) : font.toList.getD a 0#8 = 0#8 :=
  List.getD_eq_default _ _ (by rwa [Vector.length_toList])

theorem resetByte_of_le {a : Nat} (h : 80 ≤ a) : Memory.resetByte a = 0#8 :=
  List.getD_eq_default _ _ (show standardFont.length ≤ a from h)

section
variable {s : State}

/-- Reset leaves the font of the parameter `FONT` and zeroes (R190). -/
theorem read_performReset (s : State) (a : Nat) :
    s.performReset.mem.read a = s.cfg.font.toList.getD a 0#8 := by
  rw [State.performReset_eq]
  exact Memory.read_afterReset _ a

/-- After a load the ROM lies over what reset leaves in memory (R193). -/
theorem read_performLoad (h : s.run ≠ .faulted) {rom : List Byte} (hlen : rom.length ≤ romMax)
    (a : Bool) (c : Nat) :
    (s.performLoad rom a).mem.read c =
      if romBase ≤ c ∧ c < romBase + rom.length then rom.getD (c - romBase) 0#8
      else s.cfg.font.toList.getD c 0#8 := by
  have hfit : romBase + rom.length ≤ memSize := Nat.add_le_of_le_sub' (by decide) hlen
  rw [State.performLoad_eq h,
    Memory.read_writeBytes (Memory.afterReset_wf _) hfit, Memory.read_afterReset]

theorem read_performLoad_rom (h : s.run ≠ .faulted) {rom : List Byte}
    (hlen : rom.length ≤ romMax) (a : Bool) {k : Nat} (hk : k < rom.length) :
    (s.performLoad rom a).mem.read (romBase + k) = rom.getD k 0#8 := by
  rw [read_performLoad h hlen, if_pos ⟨Nat.le_add_right _ _, Nat.add_lt_add_left hk _⟩,
    Nat.add_sub_cancel_left]

theorem read_performLoad_outside (h : s.run ≠ .faulted) {rom : List Byte}
    (hlen : rom.length ≤ romMax) (a : Bool) {c : Nat}
    (hc : c < romBase ∨ romBase + rom.length ≤ c) :
    (s.performLoad rom a).mem.read c = s.cfg.font.toList.getD c 0#8 := by
  rw [read_performLoad h hlen, if_neg (by omega)]

/-! ### Which effect a command has -/

theorem hostReset_of_not_faulted (h : s.run ≠ .faulted) : s.hostReset = s.performReset := by
  unfold State.hostReset
  split
  · exact absurd ‹_› h
  · rfl
  · rfl

theorem hostLoad_of_le (h : s.run ≠ .faulted) {rom : List Byte} (hlen : rom.length ≤ romMax)
    (a : Bool) : s.hostLoad rom a = s.performLoad rom a := by
  rw [State.hostLoad, if_neg h, if_neg (Nat.not_lt.2 hlen)]

theorem hostLoad_of_gt (h : s.run ≠ .faulted) {rom : List Byte} (hlen : romMax < rom.length)
    (a : Bool) : s.hostLoad rom a = s.emit .romTooLarge := by
  rw [State.hostLoad, if_neg h, if_pos hlen]

theorem hostReload_of_none (h : s.run ≠ .faulted) (hrom : s.rom = none) (a : Bool) :
    s.hostReload a = s.emit .noRomLoaded := by
  simp only [State.hostReload, if_neg h, hrom]

theorem hostReload_of_some (h : s.run ≠ .faulted) {rom : List Byte} (hrom : s.rom = some rom)
    (a : Bool) : s.hostReload a = s.hostLoad rom a := by
  simp only [State.hostReload, if_neg h, hrom]

end

/-- Settles O49: `performReset_eq` gives every field, `read_performReset` what memory reads as. -/
theorem resetCommandEffect : Obligations.ResetCommandEffect := by
  intro s he h
  have hn : s.nextEvent.2.run ≠ .faulted := h
  refine ⟨s.nextEvent.2.performReset, ?_, ?_⟩
  · rw [step_of_host he, hostCommand, hostReset_of_not_faulted hn]
  have hread := read_performReset s.nextEvent.2
  have hzero (a : Nat) (ha : 80 ≤ a) := (hread a).trans (font_getD_of_le _ ha)
  rw [State.performReset_eq] at hread hzero ⊢
  exact ⟨rfl, rfl, getV_of_V_eq_zeros rfl, rfl, rfl, slot_of_S_eq_zeros rfl, rfl, rfl,
    fun a _ => hread a, hzero, rfl, rfl, FrameBuffer.pixel_blank, rfl, rfl, rfl, rfl⟩

/-- Settles O50: the length check decides; a ROM that fits is laid over the memory of reset, and its
range meets neither the font nor the bytes below 0x200. -/
theorem loadCommandEffect : Obligations.LoadCommandEffect := by
  intro s rom a he h
  have hn : s.nextEvent.2.run ≠ .faulted := h
  refine ⟨fun hlen => ?_, fun hlen => ⟨s.nextEvent.2.performLoad rom a, ?_, ?_⟩⟩
  · rw [step_of_host he, hostCommand, hostLoad_of_gt hn hlen]
  · rw [step_of_host he, hostCommand, hostLoad_of_le hn hlen]
  have hrom (k : Nat) (hk : k < rom.length) := read_performLoad_rom hn hlen a hk
  have hfont (c : Nat) (hc : c < 80) :=
    read_performLoad_outside hn hlen a (.inl (hc.trans (by decide)))
  have hzero (c : Nat) (hc : 80 ≤ c) (hout : c < romBase ∨ romBase + rom.length ≤ c) :=
    (read_performLoad_outside hn hlen a hout).trans (font_getD_of_le _ hc)
  rw [State.performLoad_eq hn, State.performReset_eq] at hrom hfont hzero ⊢
  exact ⟨rfl, rfl, getV_of_V_eq_zeros rfl, rfl, rfl, slot_of_S_eq_zeros rfl, rfl, rfl, rfl, rfl,
    hrom, hfont, hzero, rfl, rfl, rfl, FrameBuffer.pixel_blank, rfl⟩

/-- Settles O51: with a ROM retained, the load is the very command that `reload` gives. -/
theorem reloadCommandEffect : Obligations.ReloadCommandEffect := by
  intro s a he h
  have hn : s.nextEvent.2.run ≠ .faulted := h
  refine ⟨fun hrom => ?_, fun rom u hrom hu => ?_⟩
  · rw [step_of_host he, hostCommand, hostReload_of_none hn hrom]
  · have heu : u.nextEvent.1 = .host (.load rom a) := congrArg Prod.fst hu
    rw [step_of_host he, step_of_host heu, hu, hostCommand, hostCommand, hostReload_of_some hn hrom]

/-- Settles O1: memory with no byte listed reads as the reset bytes, and the sixteen glyphs are read
back from them. -/
theorem powerOnState : Obligations.PowerOnState :=
  ⟨getV_of_V_eq_zeros rfl, rfl, rfl, slot_of_S_eq_zeros rfl, rfl, rfl, fun _ => resetByte_of_le,
    rfl, rfl, rfl, rfl, rfl, rfl, rfl, by decide⟩

end Sys2Proof.Machine
end
